-- ==== Sys2Proof/Word.lean ====
section
/-! DEFINITION. The word types of the PG-612 and the plain containers its state is made of: the six gates, the two
hoists of a gate, the two sides of the weir, the two ports, and one record that holds a value for each of them. -/

namespace Sys2Proof

/-- One character of either port (R176: 8 data bits). -/
abbrev Byte := BitVec 8

/-- One raw code of the ADC (01, Channels and the scan: "a 12-bit raw code from 0 to 4095"). -/
abbrev Code := BitVec 12

/-- The two serial ports (R30, R176). -/
inductive Port where
  | station
  | panel
deriving DecidableEq, Repr

/-- The six gates, numbered from the left bank (00_scope.md, The weir). -/
inductive Gate where
  | g1
  | g2
  | g3
  | g4
  | g5
  | g6
deriving DecidableEq, Repr

/-- The two hoists of a gate, left and right looking downstream. -/
inductive Side where
  | left
  | right
deriving DecidableEq, Repr

/-- The two sides of the weir: UP is the river side, DOWN the sea side (R26). -/
inductive Weir where
  | up
  | down
deriving DecidableEq, Repr

/-- The two gauges of one side of the weir (R1). -/
inductive GaugeName where
  | a
  | b
deriving DecidableEq, Repr

/-- The gates in gate order, G1 to G6. -/
def Gate.all : List Gate := [.g1, .g2, .g3, .g4, .g5, .g6]

/-- One value for each gate. -/
structure PerGate (α : Type) where
  g1 : α
  g2 : α
  g3 : α
  g4 : α
  g5 : α
  g6 : α
deriving DecidableEq, Repr

/-- The same value for every gate. -/
def PerGate.const {α : Type} (a : α) : PerGate α := ⟨a, a, a, a, a, a⟩

/-- The value of one gate. -/
def PerGate.get {α : Type} (p : PerGate α) : Gate → α
  | .g1 => p.g1
  | .g2 => p.g2
  | .g3 => p.g3
  | .g4 => p.g4
  | .g5 => p.g5
  | .g6 => p.g6

/-- Replace the value of one gate. -/
def PerGate.set {α : Type} (p : PerGate α) (g : Gate) (a : α) : PerGate α :=
  match g with
  | .g1 => { p with g1 := a }
  | .g2 => { p with g2 := a }
  | .g3 => { p with g3 := a }
  | .g4 => { p with g4 := a }
  | .g5 => { p with g5 := a }
  | .g6 => { p with g6 := a }

/-- One value for each hoist of a gate. -/
structure Sides (α : Type) where
  left : α
  right : α
deriving DecidableEq, Repr

/-- The value of one hoist. -/
def Sides.get {α : Type} (p : Sides α) : Side → α
  | .left => p.left
  | .right => p.right

/-- Replace the value of one hoist. -/
def Sides.set {α : Type} (p : Sides α) (d : Side) (a : α) : Sides α :=
  match d with
  | .left => { p with left := a }
  | .right => { p with right := a }

/-- One value for each side of the weir. -/
structure Weirs (α : Type) where
  up : α
  down : α
deriving DecidableEq, Repr

/-- The value of one side of the weir. -/
def Weirs.get {α : Type} (p : Weirs α) : Weir → α
  | .up => p.up
  | .down => p.down

/-- Replace the value of one side of the weir. -/
def Weirs.set {α : Type} (p : Weirs α) (w : Weir) (a : α) : Weirs α :=
  match w with
  | .up => { p with up := a }
  | .down => { p with down := a }

/-- One value for each gauge of a side of the weir. -/
structure Pair (α : Type) where
  a : α
  b : α
deriving DecidableEq, Repr

/-- The value of one gauge. -/
def Pair.get {α : Type} (p : Pair α) : GaugeName → α
  | .a => p.a
  | .b => p.b

/-- Replace the value of one gauge. -/
def Pair.set {α : Type} (p : Pair α) (n : GaugeName) (x : α) : Pair α :=
  match n with
  | .a => { p with a := x }
  | .b => { p with b := x }

/-- One value for each port. -/
structure Ports (α : Type) where
  station : α
  panel : α
deriving DecidableEq, Repr

/-- The value of one port. -/
def Ports.get {α : Type} (p : Ports α) : Port → α
  | .station => p.station
  | .panel => p.panel

/-- Replace the value of one port. -/
def Ports.set {α : Type} (p : Ports α) (q : Port) (a : α) : Ports α :=
  match q with
  | .station => { p with station := a }
  | .panel => { p with panel := a }

/-- One of the 28 analogue channels (R1). -/
inductive Channel where
  | position (g : Gate) (d : Side)
  | load (g : Gate) (d : Side)
  | gauge (w : Weir) (n : GaugeName)
deriving DecidableEq, Repr

/-- One value for each of the 28 analogue channels. -/
structure Channels (α : Type) where
  position : PerGate (Sides α)
  load : PerGate (Sides α)
  gauge : Weirs (Pair α)
deriving DecidableEq, Repr

/-- The value of one channel. -/
def Channels.get {α : Type} (p : Channels α) : Channel → α
  | .position g d => (p.position.get g).get d
  | .load g d => (p.load.get g).get d
  | .gauge w n => (p.gauge.get w).get n

/-- Replace the value of one channel. -/
def Channels.set {α : Type} (p : Channels α) (c : Channel) (a : α) : Channels α :=
  match c with
  | .position g d => { p with position := p.position.set g ((p.position.get g).set d a) }
  | .load g d => { p with load := p.load.set g ((p.load.get g).set d a) }
  | .gauge w n => { p with gauge := p.gauge.set w ((p.gauge.get w).set n a) }

/-- The same value for every channel. -/
def Channels.const {α : Type} (a : α) : Channels α :=
  ⟨.const ⟨a, a⟩, .const ⟨a, a⟩, ⟨⟨a, a⟩, ⟨a, a⟩⟩⟩

end Sys2Proof
end

