-- ==== Sys2Proof/Config.lean ====
section
/-! DEFINITION. What the PG-612 fixes for every part (times, sizes, codes of its identity), and the FREE VALUES: opaque
constants with no body, one for each value the spec leaves open while the device goes on. Nothing in Lean can evaluate
one, so every proved claim holds for every value of it (notes/assumptions 9 to 13). -/

namespace Sys2Proof.Config

/-- IDENTIFY's device code (R187). -/
def deviceCode : Nat := 612

/-- IDENTIFY's design issue (R187). -/
def designIssue : Nat := 1

/-- The character that opens every frame (R177, R189). -/
def lead : Byte := 0xC3#8

/-- The longest frame body, in characters from kind to end of payload (R177). -/
def maxLength : Nat := 250

/-- The gap timer, ms (R177). -/
def gapTime : Nat := 20

/-- The delay from the end of a request frame to its response, ms (R181). -/
def responseDelay : Nat := 2

/-- The period of the second timer, ms (R63). -/
def secondTime : Nat := 1000

/-- The period of a full scan, ms (R2). -/
def fullScanTime : Nat := 10

/-- The period of a levels-only scan, ms (R2). -/
def levelsScanTime : Nat := 10000

/-- The drop-out time of PARKING, ms (R167). -/
def dropOutTime : Nat := 2000

/-- The settle time of WAKING, ms (R167). -/
def settleTime : Nat := 1000

/-- The trim limit, ms (R138). -/
def trimLimitTime : Nat := 30000

/-- The time of an isolation area write, ms (R195). -/
def isolationWriteTime : Nat := 40

/-- The time of a settings area write, ms (R195). -/
def settingsWriteTime : Nat := 400

/-- The most entries of the isolation table (R147). -/
def maxIsolations : Nat := 24

/-- The most live sets (R55). -/
def maxSets : Nat := 24

/-- The order records of the store (R39, R40). -/
def maxOrders : Nat := 48

/-- The length of the clock's count: it runs over 0 to 4294967295 (R63, R64). -/
def clockSpan : Nat := 4294967296

/-- FREE VALUE. The position a travel or trim step works with where a hoist's position is absent. The spec says both
positions are valid at every step (R109, R139) and gives no value for a step that finds one absent. Applied to a
counter of State, so that each use is a fresh value. -/
opaque absentPosition : Nat → Int

/-- FREE VALUE. The full travel F read for a gate whose F is unset. No rule reads F of such a gate (R83 keeps it
DISABLED); the model's functions are total and read this. -/
opaque unsetFullTravel : Nat

/-- FREE VALUE. The hoist full speed Fh read for a gate whose Fh is unset, as for `unsetFullTravel`. -/
opaque unsetFullSpeed : Nat

/-- FREE VALUE. What a joint-start character of a PLACE SET other than 0 and 1 means: R189 gives the flag one
character and names no values. -/
opaque jointFlag : Byte → Bool

/-- FREE VALUE. The rank READ SUPPLY reports for a holder in STOPPING that has no order in force: R164 gives a holder's
rank as the class of its order in force, and R173 gives no rank where there is none. -/
opaque rankWithoutOrder : Gate → Byte

/-- FREE VALUE. The two characters sent for a position that does not fit a signed field of two characters: R5 does not
clamp a position, and R189 gives its field two characters. -/
opaque unfitField : Int → BitVec 16

end Sys2Proof.Config
end

