-- ==== Sys2Proof/Syntax.lean ====
section
/-! DEFINITION. The commands of the block: one constructor of `Instr` for each row of spec/opcode_table.json.

The 36 request rows carry the port the request came by, its sequence character and its payload as it crosses the wire
(R189). Each stands for the arrival of a whole, good frame addressed to the device that carries that request
(notes/assumptions 1). The other rows are the events of R177 and after: characters, lines, timers, conversions and
write completions. -/

namespace Sys2Proof

/-- The causes under which a device reset begins; two may stand at once (R174). -/
structure ResetCauses where
  power : Bool
  brownout : Bool
  pin : Bool
deriving DecidableEq, Repr

/-- The straps as the board ties them (R176). Bit 0 of `baud` is the first baud strap, bit 1 the second. -/
structure Straps where
  address : BitVec 5
  baud : BitVec 2
deriving DecidableEq, Repr

/-- How start-up finds an area of the Nonvolatile Store (R160, R196, R197). -/
inductive AreaFound where
  /-- as the last completed write left it -/
  | asStored
  /-- holding the image of the write that the reset cut short; as stored where no write of the area was in flight -/
  | asWritten
  /-- failing its check: a write cut short, or a fault of the store -/
  | damaged
deriving DecidableEq, Repr

/-- What the world brings to a device reset: its causes, the straps, the codes of the first full scan, and how each area
is found. -/
structure ResetWorld where
  causes : ResetCauses
  straps : Straps
  codes : Channels Code
  settingsArea : AreaFound
  isolationArea : AreaFound
deriving DecidableEq, Repr

/-- The commands, one for each row of spec/opcode_table.json. -/
inductive Instr where
  -- Requests: orders (02, 03)
  | placeOrder (p : Port) (seq : Byte) (payload : List Byte)
  | placeSet (p : Port) (seq : Byte) (payload : List Byte)
  | amendOrder (p : Port) (seq : Byte) (payload : List Byte)
  | amendBatch (p : Port) (seq : Byte) (payload : List Byte)
  | withdrawOrder (p : Port) (seq : Byte) (payload : List Byte)
  | withdrawGate (p : Port) (seq : Byte) (payload : List Byte)
  | stopAll (p : Port) (seq : Byte) (payload : List Byte)
  | releaseSet (p : Port) (seq : Byte) (payload : List Byte)
  | readOrder (p : Port) (seq : Byte) (payload : List Byte)
  | listOrders (p : Port) (seq : Byte) (payload : List Byte)
  | readSet (p : Port) (seq : Byte) (payload : List Byte)
  -- Requests: gates (05, 07)
  | readGate (p : Port) (seq : Byte) (payload : List Byte)
  | readOutcome (p : Port) (seq : Byte) (payload : List Byte)
  | clearFault (p : Port) (seq : Byte) (payload : List Byte)
  | resetGate (p : Port) (seq : Byte) (payload : List Byte)
  | holdAll (p : Port) (seq : Byte) (payload : List Byte)
  | releaseAll (p : Port) (seq : Byte) (payload : List Byte)
  -- Requests: isolations (08)
  | placeIsolation (p : Port) (seq : Byte) (payload : List Byte)
  | removeIsolation (p : Port) (seq : Byte) (payload : List Byte)
  | listIsolations (p : Port) (seq : Byte) (payload : List Byte)
  | confirmIsolations (p : Port) (seq : Byte) (payload : List Byte)
  -- Requests: measurement, clock, supply (01, 04, 09)
  | readLevels (p : Port) (seq : Byte) (payload : List Byte)
  | readHoists (p : Port) (seq : Byte) (payload : List Byte)
  | setClock (p : Port) (seq : Byte) (payload : List Byte)
  | readClock (p : Port) (seq : Byte) (payload : List Byte)
  | park (p : Port) (seq : Byte) (payload : List Byte)
  | readSupply (p : Port) (seq : Byte) (payload : List Byte)
  -- Requests: settings and the store as a whole (03, 11)
  | apportion (p : Port) (seq : Byte) (payload : List Byte)
  | clearStore (p : Port) (seq : Byte) (payload : List Byte)
  | putSetting (p : Port) (seq : Byte) (payload : List Byte)
  | getSetting (p : Port) (seq : Byte) (payload : List Byte)
  | keepSettings (p : Port) (seq : Byte) (payload : List Byte)
  | lockGeometry (p : Port) (seq : Byte) (payload : List Byte)
  | unlockGeometry (p : Port) (seq : Byte) (payload : List Byte)
  -- Requests: links (10)
  | readNotices (p : Port) (seq : Byte) (payload : List Byte)
  | identify (p : Port) (seq : Byte) (payload : List Byte)
  -- Link events (10)
  | frameComplete (p : Port) (c : Byte)
  | framingError (p : Port)
  | gapTimerExpiry (p : Port)
  | responseStart (p : Port)
  | responseSent (p : Port)
  -- Lines and reset (07, 09, 10, 11)
  | localChange (asserted : Bool)
  | estopAssert
  | estopRelease
  | mainsOkChange (asserted : Bool)
  | deviceReset (w : ResetWorld)
  -- Measurement and clock events (01, 04)
  | scanTimerExpiry
  | conversionComplete (code : Code)
  | tick
  -- Write completions (08, 11)
  | isolationWriteComplete (kept : Bool)
  | settingsWriteComplete (kept : Bool)
  -- Gate timers (05, 06, 07)
  | travelStep (g : Gate)
  | liftTimerExpiry (g : Gate)
  | dwellTimerExpiry (g : Gate)
  | setTimerExpiry (g : Gate)
  | trimStep (g : Gate)
  | trimLimitExpiry (g : Gate)
  -- Supply timers (09)
  | dropOutExpiry
  | settleTimerExpiry
  -- A character that does not complete a frame (10)
  | characterArrival (p : Port) (c : Byte)
deriving DecidableEq, Repr

end Sys2Proof
end

