-- ==== Sys2Proof/Decode.lean ====
section
/-! DEFINITION. Decoding a table word to a command. The block has no instruction decoder, and no row of
spec/opcode_table.json gives bits, so no word spells a command. -/

namespace Sys2Proof

/-- The command that a word spells by the table's bits: none, as the table gives no row bits. -/
def decodeTableWord (_nbits _w : Nat) : Option Instr := none

end Sys2Proof
end

