-- ==== Sys2Proof/Machine/Settings.lean ====
section
/-! DEFINITION. The setting records of R190 (one site record and six gate records), their defaults, the validity of a
gate's geometry (R191) and the range check that start-up makes of a stored settings area (R197). -/

namespace Sys2Proof.Machine

/-- A gauge calibration: code z0 reads level L0, code z1 reads level L1 (R7). -/
structure GaugeCal where
  z0 : Nat
  l0 : Int
  z1 : Nat
  l1 : Int
deriving DecidableEq, Repr

/-- A channel's validity window (R4). -/
structure Window where
  low : Nat
  high : Nat
deriving DecidableEq, Repr

/-- A calibration pair of codes: closed and full travel for a position, zero and full scale for a load (R5, R6). -/
structure CodePair where
  c0 : Nat
  c1 : Nat
deriving DecidableEq, Repr

/-- One entry of the head band table (R113). -/
structure Band where
  threshold : Nat
  limit : Nat
deriving DecidableEq, Repr

/-- A gate's geometry (R190 items 32 to 37). `none` is "unset"; an unset load calibration acts at its default (R6, R191). -/
structure Geometry where
  fullTravel : Option Nat
  posCal : Sides (Option CodePair)
  fullSpeed : Option Nat
  maxSpeed : Option Nat
  loadCal : Sides (Option CodePair)
  locked : Bool
deriving DecidableEq, Repr

/-- A gate's tuning (R190 items 40 to 57, in the order listed there). -/
structure Tuning where
  kp : Nat
  ks : Nat
  deadBand : Nat
  settleCount : Nat
  accel : Nat
  skewTrip : Nat
  corrCap : Nat
  breakaway : Nat
  stepPeriod : Nat
  liftTime : Nat
  setTime : Nat
  dwellTime : Nat
  trimSpeed : Nat
  overload : Nat
  slack : Nat
  filter : Nat
  stallSteps : Nat
  stallDistance : Nat
deriving DecidableEq, Repr

/-- One gate record. -/
structure GateSettings where
  geo : Geometry
  tune : Tuning
deriving DecidableEq, Repr

/-- The site record (R190 items 1 to 9). -/
structure SiteSettings where
  quotas : PerGate Nat
  limitMains : Nat
  limitBattery : Nat
  economy : Nat
  bands : List Band
  hysteresis : Nat
  tolerance : Nat
  gauges : Weirs (Pair GaugeCal)
  windows : Channels Window
deriving DecidableEq, Repr

/-- The working copy of the settings (R190). -/
structure Settings where
  site : SiteSettings
  gates : PerGate GateSettings
deriving DecidableEq, Repr

/-- The default load calibration (R6, R190 item 36). -/
def defaultLoadCal : CodePair := ⟨819, 4095⟩

/-- The load calibration in effect for a hoist: the pair given, or the default while it is unset (R6, R191). -/
def Geometry.loadPair (geo : Geometry) (d : Side) : CodePair := (geo.loadCal.get d).getD defaultLoadCal

/-- The geometry of a gate that has been given nothing (R190). -/
def defaultGeometry : Geometry :=
  { fullTravel := none, posCal := ⟨none, none⟩, fullSpeed := none, maxSpeed := none,
    loadCal := ⟨none, none⟩, locked := false }

/-- The default tuning (R109, R88, R89, R92, R93, R139, R11 to R13). -/
def defaultTuning : Tuning :=
  { kp := 24, ks := 32, deadBand := 20, settleCount := 5, accel := 150, skewTrip := 80, corrCap := 400,
    breakaway := 120, stepPeriod := 100, liftTime := 300, setTime := 250, dwellTime := 500, trimSpeed := 300,
    overload := 1500, slack := 50, filter := 3, stallSteps := 20, stallDistance := 10 }

/-- The default gauge calibration (R7). -/
def defaultGaugeCal : GaugeCal := ⟨819, -5000, 4095, 15000⟩

/-- The default site record (R190). -/
def defaultSite : SiteSettings :=
  { quotas := .const 8, limitMains := 3, limitBattery := 1, economy := 600, bands := [], hysteresis := 50,
    tolerance := 100,
    gauges := ⟨⟨defaultGaugeCal, defaultGaugeCal⟩, ⟨defaultGaugeCal, defaultGaugeCal⟩⟩,
    windows := .const ⟨700, 4060⟩ }

/-- The default working copy, taken when the settings area fails its check (R197 step 2). -/
def defaultSettings : Settings :=
  { site := defaultSite, gates := .const { geo := defaultGeometry, tune := defaultTuning } }

/-- A gate's geometry is valid while F, both position pairs and Fh have values (R191). -/
def geometryValid (geo : Geometry) : Bool :=
  geo.fullTravel.isSome && geo.posCal.left.isSome && geo.posCal.right.isSome && geo.fullSpeed.isSome

/-- The sum of the six quotas. -/
def quotaSum (q : PerGate Nat) : Nat := q.g1 + q.g2 + q.g3 + q.g4 + q.g5 + q.g6

/-- Whether `n` lies in `lo`–`hi`, both ends included. -/
def within (lo hi n : Nat) : Bool := Nat.ble lo n && Nat.ble n hi

/-- Whether a signed value lies in `lo`–`hi`, both ends included. -/
def withinInt (lo hi n : Int) : Bool := decide (lo ≤ n) && decide (n ≤ hi)

/-- A span of at least 1000 codes (R190, R192). -/
def spanOk (a b : Nat) : Bool := Nat.ble 1000 (a - b) || Nat.ble 1000 (b - a)

/-- A calibration pair in its range, with its span. -/
def codePairOk (c : CodePair) : Bool := within 0 4095 c.c0 && within 0 4095 c.c1 && spanOk c.c0 c.c1

/-- A gauge calibration in its range, with its span. -/
def gaugeCalOk (c : GaugeCal) : Bool :=
  within 0 4095 c.z0 && within 0 4095 c.z1 && withinInt (-5000) 15000 c.l0 && withinInt (-5000) 15000 c.l1 &&
    spanOk c.z0 c.z1

/-- A channel window in its range (R4). -/
def windowOk (w : Window) : Bool := within 0 4095 w.low && within 0 4095 w.high

/-- The head band thresholds stand in ascending order with no two the same (R113). -/
def ascending : List Band → Bool
  | [] => true
  | b :: rest => (match rest with | [] => true | b' :: _ => decide (b.threshold < b'.threshold)) && ascending rest

/-- A head band table in its range (R113). -/
def bandsOk (bs : List Band) : Bool :=
  Nat.ble bs.length 8 && bs.all (fun b => within 0 20000 b.threshold && within 50 5000 b.limit) && ascending bs

/-- The quotas in their range (R40). -/
def quotasOk (q : PerGate Nat) : Bool :=
  Gate.all.all (fun g => within 0 48 (q.get g)) && Nat.ble (quotaSum q) 48

/-- Both hoists' values pass a check. -/
def sidesAll {α : Type} (p : α → Bool) (s : Sides α) : Bool := p s.left && p s.right

/-- A gate's geometry items each in range (R190, R191). -/
def geometryOk (geo : Geometry) : Bool :=
  geo.fullTravel.all (within 1000 15000) && sidesAll (fun c => c.all codePairOk) geo.posCal &&
    geo.fullSpeed.all (within 200 5000) &&
    geo.maxSpeed.all (fun r => within 100 5000 r && geo.fullSpeed.all (fun fh => Nat.ble r fh)) &&
    sidesAll (fun c => c.all codePairOk) geo.loadCal

/-- A gate's tuning items each in range (R190). -/
def tuningOk (t : Tuning) : Bool :=
  within 1 255 t.kp && within 0 255 t.ks && within 5 200 t.deadBand && within 1 15 t.settleCount &&
    within 10 2000 t.accel && within 20 500 t.skewTrip && within 0 1000 t.corrCap && within 0 300 t.breakaway &&
    within 50 400 t.stepPeriod && t.stepPeriod % 50 == 0 && within 50 1000 t.liftTime && within 50 1000 t.setTime &&
    within 100 2000 t.dwellTime && within 100 1000 t.trimSpeed && within 100 2000 t.overload &&
    within 0 1000 t.slack && within 1 8 t.filter && within 5 50 t.stallSteps && within 5 100 t.stallDistance

/-- Every channel's value passes a check. -/
def channelsAll {α : Type} (p : α → Bool) (c : Channels α) : Bool :=
  Gate.all.all (fun g => sidesAll p (c.position.get g) && sidesAll p (c.load.get g)) &&
    p c.gauge.up.a && p c.gauge.up.b && p c.gauge.down.a && p c.gauge.down.b

/-- The site record's items each in range (R190). -/
def siteOk (t : SiteSettings) : Bool :=
  quotasOk t.quotas && within 1 6 t.limitMains && within 1 6 t.limitBattery && within 100 5000 t.economy &&
    bandsOk t.bands && within 10 500 t.hysteresis && within 20 500 t.tolerance &&
    gaugeCalOk t.gauges.up.a && gaugeCalOk t.gauges.up.b && gaugeCalOk t.gauges.down.a && gaugeCalOk t.gauges.down.b &&
    channelsAll windowOk t.windows

/-- Every item lies in its range, the quotas sum to 48 or less and every span is at least 1000 codes: what the start-up
check asks of a stored settings area beside its check value (R197 step 2). -/
def settingsOk (st : Settings) : Bool :=
  siteOk st.site && Gate.all.all (fun g => geometryOk (st.gates.get g).geo && tuningOk (st.gates.get g).tune)

end Sys2Proof.Machine
end

