-- ==== Sys2Proof/Machine/State.lean ====
section
/-! DEFINITION. The state of the PG-612 as plain data: every value the spec gives each of its blocks, the lines it reads,
and the queue of commands that wait. `State.reset` holds the reset tables of R19, R38, R62, R80, R108, R126, R146, R160,
R175 and R188 as they stand at the reset, before the start-up of R197 has run. -/

namespace Sys2Proof.Machine

/-- A timer: `none` while stopped or cancelled, otherwise the ms it still has to run. -/
abbrev Timer := Option Nat

/-! ### Orders (02, 03) -/

/-- The class of an order, in rising order (R23). -/
inductive OrderClass where
  | routine
  | tidal
  | release
deriving DecidableEq, Repr

/-- The states of a live order (R31). -/
inductive OrderState where
  | queued
  | ready
  | inForce
  | held
deriving DecidableEq, Repr

/-- The direction of a level start (R26). -/
inductive Crossing where
  | rise
  | fall
deriving DecidableEq, Repr

/-- The start of an order with its parameters (R26). -/
inductive Start where
  | immediate
  | atTime (t : Nat)
  | level (dir : Crossing) (side : Weir) (at_ : Int)
deriving DecidableEq, Repr

/-- The five hold reasons (R33). -/
inductive HoldReason where
  | isolated
  | all
  | head
  | group
  | seat
deriving DecidableEq, Repr

/-- An order's hold set: a set of reasons, without repeats (R33). -/
structure HoldSet where
  isolated : Bool
  all : Bool
  head : Bool
  group : Bool
  seat : Bool
deriving DecidableEq, Repr

/-- The record of one live order (02, The order record). Its gate is the gate whose queue holds it (R39). -/
structure Order where
  number : Nat
  cls : OrderClass
  target : Int
  rate : Option Nat
  start : Start
  armed : Bool
  guard : Option Int
  deadline : Option Nat
  tag : Nat
  originator : Port
  setNo : Option Nat
  state : OrderState
  holds : HoldSet
  sequence : Nat
deriving DecidableEq, Repr

/-- The record of one live set (R55). -/
structure SetRec where
  number : Nat
  members : List Nat
  joint : Bool
  allReady : Bool
  broken : Bool
deriving DecidableEq, Repr

/-- The Order Store: six gate queues, the set table and the numbering counters (R20, R21, R39, R55). -/
structure Store where
  queues : PerGate (List Order)
  nextNumber : Nat
  acceptCount : Nat
  sets : List SetRec
  nextSet : Nat
deriving DecidableEq, Repr

/-! ### The Measurement Unit (01) -/

/-- The standing of a channel (R4). -/
inductive Standing where
  | unread
  | valid
  | invalid
deriving DecidableEq, Repr

/-- What the MU holds for one hoist (R4 to R6, R11, R12, R16). `position` is `none` while absent. A load is valid
exactly while its channel is (R6). -/
structure HoistMeas where
  posRaw : Code
  posStanding : Standing
  position : Option Int
  posValid : Bool
  outOfBounds : Bool
  loadRaw : Code
  loadStanding : Standing
  load : Nat
  overload : Nat
  slack : Nat
deriving DecidableEq, Repr

/-- What the MU holds for one gauge (R4, R7). -/
structure GaugeMeas where
  raw : Code
  standing : Standing
  level : Int
deriving DecidableEq, Repr

/-- The quality of an agreed level (R8). -/
inductive Quality where
  | good
  | single
  | disputed
  | lost
deriving DecidableEq, Repr

/-- An agreed level with its quality (R8). -/
structure SideLevel where
  agreed : Int
  quality : Quality
deriving DecidableEq, Repr

/-- The two scan modes (R2). -/
inductive ScanMode where
  | full
  | levelsOnly
deriving DecidableEq, Repr

/-- A scan in progress: its mode and the channel number, 1 to 28, that is converted next (R1, R2). -/
structure Scan where
  mode : ScanMode
  next : Nat
deriving DecidableEq, Repr

/-- The Measurement Unit. `sinceScan` is the ms since the most recent scan started, and `fullDue` says that a full scan
starts at the end of the scan in progress; R3 needs both. -/
structure Measurement where
  hoists : PerGate (Sides HoistMeas)
  gauges : Weirs (Pair GaugeMeas)
  sides : Weirs SideLevel
  head : Int
  headDisputed : Bool
  scan : Option Scan
  scanTimer : Timer
  sinceScan : Nat
  fullDue : Bool
deriving DecidableEq, Repr

/-! ### The Start Watch (04) -/

/-- The weir clock, its CLOCK_SET flag and the second timer (R63). -/
structure Clock where
  value : Nat
  isSet : Bool
  second : Timer
deriving DecidableEq, Repr

/-! ### The gate sequencers and the Hoist Drive Units (05, 06, 07) -/

/-- The ten gate states, in the order of the table under R82. -/
inductive GateState where
  | disabled
  | idle
  | waitGrant
  | releasing
  | travel
  | reversing
  | stopping
  | held
  | trim
  | fault
deriving DecidableEq, Repr

/-- The direction of a hoist (R123). -/
inductive Direction where
  | neither
  | raise
  | lower
deriving DecidableEq, Repr

/-- What a Hoist Drive Unit holds and drives (R123). -/
structure Hoist where
  brake : Bool
  dir : Direction
  duty : Nat
deriving DecidableEq, Repr

/-- An open stall window: the reference mean and the count of steps (R122). -/
structure StallWindow where
  ref : Int
  count : Nat
deriving DecidableEq, Repr

/-- The eight fault kinds (R127). -/
inductive FaultKind where
  | position
  | limit
  | skew
  | overload
  | slack
  | stall
  | estop
  | trim
deriving DecidableEq, Repr

/-- The hoist designation of a fault (R127). -/
inductive Designation where
  | left
  | right
  | both
deriving DecidableEq, Repr

/-- A fault record that is not empty (R130). -/
structure FaultRec where
  kind : FaultKind
  hoist : Designation
  second : Option Nat
  further : Nat
deriving DecidableEq, Repr

/-- The seven outcomes (R34). -/
inductive Outcome where
  | arrived
  | withdrawn
  | superseded
  | overdue
  | lapsed
  | faulted
  | cleared
deriving DecidableEq, Repr

/-- A last-outcome record that is not empty (R52). -/
structure OutcomeRec where
  number : Nat
  tag : Nat
  cls : OrderClass
  outcome : Outcome
  second : Option Nat
  mean : Option Int
deriving DecidableEq, Repr

/-- One gate sequencer with its two Hoist Drive Units (R81, R123, R130, R52). `link` is the number of the order in
force; `window` is `none` while the stall window is empty. A trim wait is WAIT_GRANT with no order in force (R137). -/
structure GateSeq where
  st : GateState
  link : Option Nat
  vPrev : Int
  settle : Nat
  window : Option StallWindow
  stepTimer : Timer
  phaseTimer : Timer
  trimTimer : Timer
  fault : Option FaultRec
  outcome : Option OutcomeRec
  hoists : Sides Hoist
deriving DecidableEq, Repr

/-! ### The Drive Slot Arbiter and the Supply Controller (09) -/

/-- One slot holder, and whether it has been named for reclaim (R164, R165, R173). -/
structure Holder where
  gate : Gate
  named : Bool
deriving DecidableEq, Repr

/-- The Drive Slot Arbiter (R161 to R166). `holders` stand in grant order. `waiters` are the gates on the wait list in
the order they joined it; its rank order (R162) is computed from it (`waitList`). `fresh` (the gates that joined in the
event being taken) and `due` (a grant test is owed at the close of that event) are the model's own: between events they
are empty and clear. -/
structure Arbiter where
  limit : Nat
  holders : List Holder
  waiters : List Gate
  fresh : List Gate
  due : Bool
deriving DecidableEq, Repr

/-- The supply states, in the order of R167 (and of their codes, R189). -/
inductive SupplyState where
  | run
  | parking
  | parked
  | waking
deriving DecidableEq, Repr

/-- The source of the drive supply (R168). -/
inductive Source where
  | mains
  | battery
deriving DecidableEq, Repr

/-- The recorded cause of a reset (R174). -/
inductive ResetCause where
  | power
  | brownout
  | pin
deriving DecidableEq, Repr

/-- The Supply Controller with its DRIVE_SUPPLY line (R167). `phase` is the drop-out timer in PARKING and the settle
timer in WAKING. -/
structure Supply where
  st : SupplyState
  source : Source
  phase : Timer
  cause : ResetCause
  driveSupply : Bool
deriving DecidableEq, Repr

/-! ### The Isolation Table and the Nonvolatile Store (08, 11) -/

/-- The scope of an isolation (R147). -/
inductive Scope where
  | gate (g : Gate)
  | site
deriving DecidableEq, Repr

/-- What an entry of the isolation table holds that its image in the isolation area holds too: all but its Kept mark (R147,
R156). `placement` is the model's own: it tells one placement from another, as R155 asks ("matched by its own placement,
not by its code and scope"). -/
structure IsoRecord where
  code : Nat
  scope : Scope
  crew : Nat
  port : Port
  second : Option Nat
  placement : Nat
deriving DecidableEq, Repr

/-- One entry of the isolation table (R147). -/
structure IsoEntry extends IsoRecord where
  kept : Bool
deriving DecidableEq, Repr

/-- The Isolation Table, oldest entry first, and STORE_DOUBT (R147, R148). `nextPlacement` numbers the placements. -/
structure Isolations where
  entries : List IsoEntry
  doubt : Bool
  nextPlacement : Nat
deriving DecidableEq, Repr

/-- An isolation area image: the entries without their Kept marks, and STORE_DOUBT as it stood (R156). -/
structure IsoImage where
  entries : List IsoRecord
  doubt : Bool
deriving DecidableEq, Repr

/-- The write in flight (R154, R195). -/
inductive Flight where
  | isolation (image : IsoImage)
  | settings (image : Settings)
deriving DecidableEq, Repr

/-- The Nonvolatile Store. An area is `none` while it holds no image that passes its check value (R156, R194 to R197). -/
structure Nvs where
  settingsArea : Option Settings
  isolationArea : Option IsoImage
  settingsJob : Bool
  isolationJob : Bool
  flight : Option Flight
  timer : Timer
  settingsLost : Bool
deriving DecidableEq, Repr

/-! ### The link units (10) -/

/-- The reception states (R177). -/
inductive RxState where
  | hunt
  | header
  | body
  | check
deriving DecidableEq, Repr

/-- A port's notice set of fifteen flags (R184). -/
structure NoticeSet where
  outcome : PerGate Bool
  fault : PerGate Bool
  isolation : Bool
  supply : Bool
  store : Bool
deriving DecidableEq, Repr

/-- What a request that waits on a write will answer with (R150, R151, R152, R158, R193, R194). A placement and a removal
give the count of entries at their acceptance; a renewal and a confirmation give it as the write's completion leaves the
table (R181). -/
inductive Waiting where
  | placement (count : Nat) (placement : Nat)
  | renewal (placement : Nat)
  | removal (count : Nat)
  | confirmation
  | settings
deriving DecidableEq, Repr

/-- How far a held request has come (R179, R181). `waiting` says whether the write it waits on has started. -/
inductive Progress where
  | waiting (started : Bool) (what : Waiting)
  | ready (response : List Byte)
  | sending (response : List Byte)
deriving DecidableEq, Repr

/-- The request a link unit holds: its response is owed (R179). -/
structure HeldRequest where
  kind : Byte
  seq : Byte
  progress : Progress
deriving DecidableEq, Repr

/-- One link unit (R177, R179, R184). `delay` is what is left of the 2 ms of R181. The station's line driver is enabled
exactly while its response is being sent (R181). -/
structure Link where
  rx : RxState
  buffer : List Byte
  gap : Timer
  request : Option HeldRequest
  delay : Timer
  notices : NoticeSet
deriving DecidableEq, Repr

/-- The plain lines the device reads (00_scope.md, Signals in brief): asserted or not. -/
structure Lines where
  localKey : Bool
  estop : Bool
  mainsOk : Bool
deriving DecidableEq, Repr

/-! ### The device -/

/-- The whole state of the PG-612. -/
structure State where
  measure : Measurement
  store : Store
  clock : Clock
  gates : PerGate GateSeq
  holdAll : Bool
  arbiter : Arbiter
  supply : Supply
  isolations : Isolations
  nvs : Nvs
  links : Ports Link
  address : Nat
  baud : Nat
  seat : Port
  settings : Settings
  lines : Lines
  /-- whether the start-up of R197 has ended -/
  started : Bool
  /-- the model's own: counts the uses of the free value `Config.absentPosition` -/
  freeCount : Nat
  /-- the commands that wait, first in first out -/
  pending : List Instr
deriving DecidableEq, Repr

/-- The reasons a step can stop with a fault. NONE: the spec gives every command of this block an effect in every state,
so the type has no constructor (safe: no claim rests on a stop). -/
inductive Fault where
deriving DecidableEq, Repr

/-- The reasons a step can be refused. -/
inductive Refusal where
  /-- The command has no meaning in the model. Raised by an arm of `exec` that is rejected by name; no arm is (safe). -/
  | notModelled (mnemonic : String)
deriving DecidableEq, Repr

/-! ### Reset values -/

/-- A hoist at rest with its brake applied (R126). -/
def Hoist.off : Hoist := { brake := false, dir := .neither, duty := 0 }

/-- An empty hold set (R33). -/
def HoldSet.none : HoldSet := { isolated := false, all := false, head := false, group := false, seat := false }

/-- An empty notice set (R188). -/
def NoticeSet.none : NoticeSet :=
  { outcome := .const false, fault := .const false, isolation := false, supply := false, store := false }

/-- The MU's values of one hoist at reset (R19). -/
def HoistMeas.reset : HoistMeas :=
  { posRaw := 0, posStanding := .unread, position := none, posValid := false, outOfBounds := false, loadRaw := 0,
    loadStanding := .unread, load := 0, overload := 0, slack := 0 }

/-- The MU's values of one gauge at reset (R19). -/
def GaugeMeas.reset : GaugeMeas := { raw := 0, standing := .unread, level := 0 }

/-- The MU at reset (R19). -/
def Measurement.reset : Measurement :=
  { hoists := .const ⟨.reset, .reset⟩, gauges := ⟨⟨.reset, .reset⟩, ⟨.reset, .reset⟩⟩,
    sides := ⟨⟨0, .lost⟩, ⟨0, .lost⟩⟩, head := 0, headDisputed := true, scan := none, scanTimer := none,
    sinceScan := 0, fullDue := false }

/-- The Order Store at reset (R38, R62). -/
def Store.reset : Store := { queues := .const [], nextNumber := 1, acceptCount := 0, sets := [], nextSet := 1 }

/-- A gate sequencer and its hoists at reset (R108, R126, R146). -/
def GateSeq.reset : GateSeq :=
  { st := .disabled, link := none, vPrev := 0, settle := 0, window := none, stepTimer := none, phaseTimer := none,
    trimTimer := none, fault := none, outcome := none, hoists := ⟨.off, .off⟩ }

/-- The arbiter at reset (R175). -/
def Arbiter.reset : Arbiter := { limit := 0, holders := [], waiters := [], fresh := [], due := false }

/-- A link unit at reset (R188). -/
def Link.reset : Link :=
  { rx := .hunt, buffer := [], gap := none, request := none, delay := none, notices := .none }

/-- The machine right after a reset, before start-up has run: the values of the reset tables. What the spec leaves to
the world or to a later step of start-up is named in notes/assumptions 3 to 6: the lines deasserted, the recorded cause
POWER, the address and rate not yet sampled, both areas of the Nonvolatile Store holding nothing that passes its check,
and the working copy at its defaults until it is loaded. -/
def State.reset : State :=
  { measure := .reset
    store := .reset
    clock := { value := 0, isSet := false, second := none }
    gates := .const .reset
    holdAll := false
    arbiter := .reset
    supply := { st := .parked, source := .battery, phase := none, cause := .power, driveSupply := false }
    isolations := { entries := [], doubt := true, nextPlacement := 0 }
    nvs := { settingsArea := none, isolationArea := none, settingsJob := false, isolationJob := false, flight := none,
             timer := none, settingsLost := false }
    links := ⟨.reset, .reset⟩
    address := 0
    baud := 0
    seat := .station
    settings := defaultSettings
    lines := { localKey := false, estop := false, mainsOk := false }
    started := false
    freeCount := 0
    pending := [] }

end Sys2Proof.Machine
end

