-- ==== Sys2Proof/Machine/Ops.lean ====
section
/-! DEFINITION. The named operations over the state that every command is built from: reading and replacing one gate,
queue, hoist or link; isolation and the inhibits; the Hoist Drive Units; notices; holders and the wait list; entering a
gate state. Each follows the rule its docstring cites. -/

namespace Sys2Proof.Machine

/-! ### Numbers -/

/-- The exact quotient rounded half away from zero (01, Scaling). -/
def roundDiv (n d : Int) : Int :=
  let q : Nat := (2 * n.natAbs + d.natAbs) / (2 * d.natAbs)
  if n * d < 0 then -(q : Int) else q

/-- A signed value limited to `lo`–`hi` ("clamped"). -/
def clampInt (lo hi n : Int) : Int := max lo (min hi n)

/-- An unsigned value limited to `lo`–`hi` ("clamped"). -/
def clampNat (lo hi n : Nat) : Nat := max lo (min hi n)

/-- The mean of two values, halved sum truncated toward zero (R8, R52, R110). -/
def meanOf (a b : Int) : Int := (a + b).tdiv 2

/-! ### Codes and ranks of the enumerations -/

/-- The rank of a class: higher is more urgent (R23). -/
def classRank : OrderClass → Nat
  | .routine => 0
  | .tidal => 1
  | .release => 2

/-- The number of a gate, 1 to 6. -/
def gateNumber : Gate → Nat
  | .g1 => 1
  | .g2 => 2
  | .g3 => 3
  | .g4 => 4
  | .g5 => 5
  | .g6 => 6

/-- The gate of a number, where it is 1 to 6. -/
def gateOf : Nat → Option Gate
  | 1 => some .g1
  | 2 => some .g2
  | 3 => some .g3
  | 4 => some .g4
  | 5 => some .g5
  | 6 => some .g6
  | _ => none

/-! ### Parts of the state -/

/-- A gate's sequencer. -/
def State.gate (s : State) (g : Gate) : GateSeq := s.gates.get g

/-- Replace a gate's sequencer by `f` of it. -/
def State.updGate (s : State) (g : Gate) (f : GateSeq → GateSeq) : State :=
  { s with gates := s.gates.set g (f (s.gates.get g)) }

/-- A gate's queue, head first (R42). -/
def State.queue (s : State) (g : Gate) : List Order := s.store.queues.get g

/-- Replace a gate's queue by `f` of it. -/
def State.updQueue (s : State) (g : Gate) (f : List Order → List Order) : State :=
  { s with store := { s.store with queues := s.store.queues.set g (f (s.store.queues.get g)) } }

/-- Replace one order of a gate's queue by `f` of it. -/
def State.updOrder (s : State) (g : Gate) (n : Nat) (f : Order → Order) : State :=
  s.updQueue g (List.map fun o => if o.number = n then f o else o)

/-- The set table with `f` applied to it. -/
def State.updSets (s : State) (f : List SetRec → List SetRec) : State :=
  { s with store := { s.store with sets := f s.store.sets } }

/-- A gate's working settings. -/
def State.gateSettings (s : State) (g : Gate) : GateSettings := s.settings.gates.get g

/-- A gate's working tuning. -/
def State.tune (s : State) (g : Gate) : Tuning := (s.gateSettings g).tune

/-- A gate's working geometry. -/
def State.geo (s : State) (g : Gate) : Geometry := (s.gateSettings g).geo

/-- A gate's full travel F. Where it is unset the value is free (`Config.unsetFullTravel`). -/
def State.fullTravel (s : State) (g : Gate) : Nat := (s.geo g).fullTravel.getD Config.unsetFullTravel

/-- A gate's hoist full speed Fh. Where it is unset the value is free (`Config.unsetFullSpeed`). -/
def State.fullSpeed (s : State) (g : Gate) : Nat := (s.geo g).fullSpeed.getD Config.unsetFullSpeed

/-- The gate maximum R_g: Fh while unset (R191). -/
def State.maxSpeed (s : State) (g : Gate) : Nat := (s.geo g).maxSpeed.getD (s.fullSpeed g)

/-- What the MU holds for one hoist. -/
def State.hoistMeas (s : State) (g : Gate) (d : Side) : HoistMeas := (s.measure.hoists.get g).get d

/-- Replace what the MU holds for one hoist by `f` of it. -/
def State.updHoistMeas (s : State) (g : Gate) (d : Side) (f : HoistMeas → HoistMeas) : State :=
  { s with measure := { s.measure with
      hoists := s.measure.hoists.set g ((s.measure.hoists.get g).set d (f ((s.measure.hoists.get g).get d))) } }

/-- A port's link unit. -/
def State.link (s : State) (p : Port) : Link := s.links.get p

/-- Replace a port's link unit by `f` of it. -/
def State.updLink (s : State) (p : Port) (f : Link → Link) : State :=
  { s with links := s.links.set p (f (s.links.get p)) }

/-- The arbiter with `f` applied to it. -/
def State.updArbiter (s : State) (f : Arbiter → Arbiter) : State := { s with arbiter := f s.arbiter }

/-- The order of a gate's queue that has a number. -/
def State.orderIn (s : State) (g : Gate) (n : Nat) : Option Order :=
  (s.queue g).find? fun o => o.number == n

/-- The gate's order in force, by its link (R81). -/
def State.orderInForce (s : State) (g : Gate) : Option Order :=
  match (s.gate g).link with
  | none => none
  | some n => s.orderIn g n

/-- The live order that has a number, with its gate. -/
def State.findOrder (s : State) (n : Nat) : Option (Gate × Order) :=
  Gate.all.findSome? fun g => (s.orderIn g n).map fun o => (g, o)

/-- Every live order with its gate, gate by gate in queue order. -/
def State.liveOrders (s : State) : List (Gate × Order) :=
  Gate.all.flatMap fun g => (s.queue g).map fun o => (g, o)

/-- The count of live orders (R39). -/
def State.liveCount (s : State) : Nat := (Gate.all.map fun g => (s.queue g).length).sum

/-- The record of a live set. -/
def State.findSet (s : State) (k : Nat) : Option SetRec := s.store.sets.find? fun r => r.number == k

/-- The second stamped into a record: the clock while CLOCK_SET is true (R63). -/
def State.stamp (s : State) : Option Nat := if s.clock.isSet then some s.clock.value else none

/-! ### Isolation and the inhibits -/

/-- Whether a scope covers a gate (R147). -/
def scopeCovers (sc : Scope) (g : Gate) : Bool :=
  match sc with
  | .gate h => h == g
  | .site => true

/-- Whether a gate is isolated (R148). -/
def State.isolated (s : State) (g : Gate) : Bool :=
  s.isolations.doubt || s.isolations.entries.any fun e => scopeCovers e.scope g

/-- Whether an inhibit stands at a gate's two Hoist Drive Units (R125). -/
def State.inhibited (s : State) (g : Gate) : Bool := s.lines.estop || s.isolated g

/-! ### The Hoist Drive Units -/

/-- The load-watch counters of a hoist become 0 as its brake-release line goes off (R13). -/
def clearCounters (m : HoistMeas) : HoistMeas := { m with overload := 0, slack := 0 }

/-- Both brake-release lines of a gate go off: brakes applied, directions neither, duties 0, load-watch counters 0
(R82, R123, R13). -/
def brakesOff (g : Gate) (s : State) : State :=
  ((s.updGate g fun q => { q with hoists := ⟨.off, .off⟩ }).updHoistMeas g .left clearCounters).updHoistMeas g .right
    clearCounters

/-- The sequencer commands both brake-release lines on with the outputs off (R88, R89, R138). Under an inhibit the HDU
takes the command as off (R125). -/
def brakesOn (g : Gate) (s : State) : State :=
  if s.inhibited g then brakesOff g s
  else s.updGate g fun q =>
    { q with hoists := ⟨{ brake := true, dir := .neither, duty := 0 }, { brake := true, dir := .neither, duty := 0 }⟩ }

/-- What an HDU takes from a command of direction and duty: neither and 0 while its brake-release line is off (R124). -/
def Hoist.drive (h : Hoist) (dir : Direction) (duty : Nat) : Hoist :=
  if h.brake then { h with dir := dir, duty := duty } else { h with dir := .neither, duty := 0 }

/-- The sequencer hands each hoist its direction and duty (R121, R123, R139). Under an inhibit the HDU takes them as
neither and 0 (R125). -/
def driveHoists (g : Gate) (l r : Direction × Nat) (s : State) : State :=
  if s.inhibited g then brakesOff g s
  else s.updGate g fun q => { q with hoists := ⟨q.hoists.left.drive l.1 l.2, q.hoists.right.drive r.1 r.2⟩ }

/-! ### The arbiter's collections -/

/-- The rank of a gate on the wait list: the class of its order in force, RELEASE in a trim wait (R137, R162). -/
def waitRank (s : State) (g : Gate) : OrderClass :=
  match s.orderInForce g with
  | some o => o.cls
  | none => .release

/-- The wait list in rank order: higher class first, and among equals in the order of joining (R162). -/
def waitList (s : State) : List Gate :=
  s.arbiter.waiters.filter (fun g => waitRank s g == .release) ++
    (s.arbiter.waiters.filter (fun g => waitRank s g == .tidal) ++
      s.arbiter.waiters.filter (fun g => waitRank s g == .routine))

/-- The event calls for the grant test at its close (R163). -/
def callGrantTest (s : State) : State := s.updArbiter fun a => { a with due := true }

/-- The drive limit takes a value (R161). -/
def setLimit (l : Nat) (s : State) : State := s.updArbiter fun a => { a with limit := l }

/-- A gate joins the wait list in this event (R162). The close of the event puts the gates that joined in it behind
those already there, in gate order. A join calls for the grant test (R163). -/
def joinWait (g : Gate) (s : State) : State :=
  s.updArbiter fun a => { a with fresh := a.fresh.filter (· != g) ++ [g], due := true }

/-- A gate leaves the wait list (R162). -/
def leaveWait (g : Gate) (s : State) : State :=
  s.updArbiter fun a => { a with waiters := a.waiters.filter (· != g), fresh := a.fresh.filter (· != g) }

/-- Whether a gate holds a drive slot. -/
def holdsSlot (s : State) (g : Gate) : Bool := s.arbiter.holders.any fun h => h.gate == g

/-- A holder gives its slot back, which calls for the grant test (R164). A gate that holds none gives nothing back. -/
def releaseSlot (g : Gate) (s : State) : State :=
  if holdsSlot s g then
    s.updArbiter fun a => { a with holders := a.holders.filter (fun h => h.gate != g), due := true }
  else s

/-! ### Entering a state -/

/-- Enter a state whose row of R82 has its lines off, with the phase timer as given and no other timer. -/
def enterAtRest (st : GateState) (phase : Timer) (g : Gate) (s : State) : State :=
  brakesOff g (s.updGate g fun q =>
    { q with st := st, stepTimer := none, phaseTimer := phase, trimTimer := none })

/-- Enter STOPPING: lines off, set timer started, slot kept (R93). -/
def enterStopping (g : Gate) (s : State) : State := enterAtRest .stopping (some (s.tune g).setTime) g s

/-- Enter REVERSING: lines off, dwell timer started, slot kept (R92). -/
def enterReversing (g : Gate) (s : State) : State := enterAtRest .reversing (some (s.tune g).dwellTime) g s

/-- Enter HELD (R82, R98). -/
def enterHeld (g : Gate) (s : State) : State := enterAtRest .held none g s

/-- Enter WAIT_GRANT and join the wait list (R82, R162). -/
def enterWaitGrant (g : Gate) (s : State) : State := joinWait g (enterAtRest .waitGrant none g s)

/-- Enter RELEASING: brakes lifted, outputs off, lift timer started (R88). -/
def enterReleasing (g : Gate) (s : State) : State :=
  brakesOn g (s.updGate g fun q =>
    { q with st := .releasing, stepTimer := none, phaseTimer := some (s.tune g).liftTime, trimTimer := none })

/-- Enter TRAVEL at the lift expiry: v_prev 0, settle counter 0, stall window emptied, step timer started (R89, R122). -/
def enterTravel (g : Gate) (s : State) : State :=
  brakesOn g (s.updGate g fun q =>
    { q with st := .travel, vPrev := 0, settle := 0, window := none, stepTimer := some (s.tune g).stepPeriod,
             phaseTimer := none, trimTimer := none })

/-- Enter TRIM at a grant: brakes lifted, outputs off, step timer started with the lift time, trim limit started (R138). -/
def enterTrim (g : Gate) (s : State) : State :=
  brakesOn g (s.updGate g fun q =>
    { q with st := .trim, stepTimer := some (s.tune g).liftTime, phaseTimer := none,
             trimTimer := some Config.trimLimitTime })

end Sys2Proof.Machine
end

