-- ==== Sys2Proof/Machine/Flags.lean ====
section
/-! DEFINITION. Everything the PG-612 computes as a flag: notice flags and the attention lines (R184 to R186), hold sets
(R33), eligibility (R45), the clamp flags of a response (R189), and what may be read off a gate's standing (R15, R17). -/

namespace Sys2Proof.Machine

/-! ### Notices and attention -/

/-- Set flags in the notice sets of both ports (R184). -/
def raiseNotice (f : NoticeSet → NoticeSet) (s : State) : State :=
  { s with links :=
      { station := { s.links.station with notices := f s.links.station.notices }
        panel := { s.links.panel with notices := f s.links.panel.notices } } }

/-- A gate's OUTCOME flag (R51, R184). -/
def noticeOutcome (g : Gate) : State → State := raiseNotice fun n => { n with outcome := n.outcome.set g true }

/-- A gate's FAULT flag (R130, R184). -/
def noticeFault (g : Gate) : State → State := raiseNotice fun n => { n with fault := n.fault.set g true }

/-- The ISOLATION flag (R150, R184). -/
def noticeIsolation : State → State := raiseNotice fun n => { n with isolation := true }

/-- The SUPPLY flag, set only after start-up (R167, R168, R175). -/
def noticeSupply (s : State) : State := if s.started then raiseNotice (fun n => { n with supply := true }) s else s

/-- The STORE flag (R155, R196). -/
def noticeStore : State → State := raiseNotice fun n => { n with store := true }

/-- Whether a notice set holds a set flag (R186). -/
def NoticeSet.anySet (n : NoticeSet) : Bool :=
  Gate.all.any (fun g => n.outcome.get g) || Gate.all.any (fun g => n.fault.get g) || n.isolation || n.supply || n.store

/-- A port's attention line, ATTN_S or ATTN_P (R186). -/
def State.attention (s : State) (p : Port) : Bool := (s.link p).notices.anySet

/-! ### The lines of a hoist -/

/-- A hoist's raise line (R123). -/
def Hoist.raiseLine (h : Hoist) : Bool := h.dir == .raise

/-- A hoist's lower line (R123). -/
def Hoist.lowerLine (h : Hoist) : Bool := h.dir == .lower

/-- The station port's line driver: enabled while a response is being sent on it (R181). -/
def State.stationDriver (s : State) : Bool :=
  match (s.link .station).request with
  | some { progress := .sending _, .. } => true
  | _ => false

/-! ### Hold sets -/

/-- Whether a hold set is empty (R33). -/
def HoldSet.isEmpty (h : HoldSet) : Bool := !(h.isolated || h.all || h.head || h.group || h.seat)

/-- Whether a reason stands in a hold set. -/
def HoldSet.has (h : HoldSet) : HoldReason → Bool
  | .isolated => h.isolated
  | .all => h.all
  | .head => h.head
  | .group => h.group
  | .seat => h.seat

/-- A hold set with a reason put in or taken out. -/
def HoldSet.put (h : HoldSet) (r : HoldReason) (v : Bool) : HoldSet :=
  match r with
  | .isolated => { h with isolated := v }
  | .all => { h with all := v }
  | .head => { h with head := v }
  | .group => { h with group := v }
  | .seat => { h with seat := v }

/-- The hold set computed afresh from a gate's standing at a taking of force (R33, R85). -/
def standingHolds (s : State) (g : Gate) : HoldSet :=
  { HoldSet.none with isolated := s.isolated g, all := s.holdAll }

/-! ### Eligibility -/

/-- Whether a set lets its member take force: not broken, and seen all-ready where it has joint start (R45). -/
def setAllows (s : State) (k : Option Nat) : Bool :=
  match k with
  | none => true
  | some n =>
    match s.findSet n with
    | none => true
    | some r => !r.broken && (!r.joint || r.allReady)

/-- Whether an order is eligible (R45). -/
def eligible (s : State) (o : Order) : Bool :=
  o.state == .ready && o.originator == s.seat && setAllows s o.setNo

/-- The first eligible order of a gate's queue (R46, R47). -/
def firstEligible (s : State) (g : Gate) : Option Order := (s.queue g).find? (eligible s)

/-! ### A gate's standing -/

/-- The designation of two hoists, each to be named or not. -/
def designate (l r : Bool) : Option Designation :=
  match l, r with
  | false, false => none
  | true, false => some .left
  | false, true => some .right
  | true, true => some .both

/-- The designation of one hoist. -/
def designateSide : Side → Designation
  | .left => .left
  | .right => .right

/-- The hoists of a gate whose position channel is not valid (R15, R134). -/
def badChannels (s : State) (g : Gate) : Option Designation :=
  designate ((s.hoistMeas g .left).posStanding != .valid) ((s.hoistMeas g .right).posStanding != .valid)

/-- Whether a hoist is out of bounds: only a gate with valid geometry has positions that can be (R5, R16). Geometry put not
valid and valid again with no conversion between masks the standing and then shows it again, so that it can raise LIMIT at a
taking of force: the spec does not say (DESIGN CHOICE, notes/assumptions 46). -/
def outOfBounds (s : State) (g : Gate) (d : Side) : Bool :=
  geometryValid (s.geo g) && (s.hoistMeas g d).outOfBounds

/-- The hoists of a gate that are out of bounds (R17). -/
def boundsFault (s : State) (g : Gate) : Option Designation :=
  designate (outOfBounds s g .left) (outOfBounds s g .right)

/-- A hoist's position as it is reported: absent for a gate without valid geometry (R5, R18). -/
def positionOf (s : State) (g : Gate) (d : Side) : Option Int :=
  if geometryValid (s.geo g) then (s.hoistMeas g d).position else none

/-- A hoist's position where it is valid (R5). -/
def validPosition (s : State) (g : Gate) (d : Side) : Option Int :=
  if (s.hoistMeas g d).posValid then positionOf s g d else none

/-- The mean position of a gate, absent unless both hoist positions are valid (R52). -/
def meanPosition (s : State) (g : Gate) : Option Int :=
  match validPosition s g .left, validPosition s g .right with
  | some l, some r => some (meanOf l r)
  | _, _ => none

/-- Whether a position lies within the dead band of a target (R86). -/
def inBand (s : State) (g : Gate) (target : Int) (p : Option Int) : Bool :=
  match p with
  | some x => decide ((target - x).natAbs ≤ (s.tune g).deadBand)
  | none => false

/-- The immediate-arrival test (R86). -/
def arrivedNow (s : State) (g : Gate) (o : Order) : Bool :=
  inBand s g o.target (validPosition s g .left) && inBand s g o.target (validPosition s g .right)

/-! ### Clamp flags -/

/-- The clamp flags of a placement or an amendment (R189). -/
structure ClampFlags where
  target : Bool
  rate : Bool
  guard : Bool
  level : Bool
deriving DecidableEq, Repr

/-- Whether any field was clamped (R35). -/
def ClampFlags.any (c : ClampFlags) : Bool := c.target || c.rate || c.guard || c.level

end Sys2Proof.Machine
end

