-- ==== Sys2Proof/Machine/Operands.lean ====
section
/-! DEFINITION. The wire (R178, R189): reading and writing fields of one, two and four characters, the CRC, the layouts of
every request payload and of every record a response carries, and the codes of every table of values. -/

namespace Sys2Proof.Machine

/-! ### Reading characters -/

/-- Two characters, high byte first (R189). -/
def u16 (a b : Byte) : Nat := a.toNat * 256 + b.toNat

/-- Four characters, high byte first (R189). -/
def u32 (a b c d : Byte) : Nat := u16 a b * 65536 + u16 c d

/-- A field of two characters read as two's complement (R189). -/
def signed16 (n : Nat) : Int := if n < 32768 then n else (n : Int) - 65536

/-- A field of four characters read as two's complement (R189). -/
def signed32 (n : Nat) : Int := if n < 2147483648 then n else (n : Int) - 4294967296

/-- Take one character. -/
def take1 : List Byte → Option (Nat × List Byte)
  | a :: r => some (a.toNat, r)
  | _ => none

/-- Take two characters. -/
def take2 : List Byte → Option (Nat × List Byte)
  | a :: b :: r => some (u16 a b, r)
  | _ => none

/-- Take four characters. -/
def take4 : List Byte → Option (Nat × List Byte)
  | a :: b :: c :: d :: r => some (u32 a b c d, r)
  | _ => none

/-- Take a field only where it is present. -/
def takeIf (given : Bool) (f : List Byte → Option (Nat × List Byte)) (l : List Byte) :
    Option (Option Nat × List Byte) :=
  if given then (f l).map fun x => (some x.1, x.2) else some (none, l)

/-- Whether bit `k` of a number is set. -/
def bitOf (n k : Nat) : Bool := n.testBit k

/-! ### Writing characters -/

/-- One character. -/
def w8 (n : Nat) : List Byte := [BitVec.ofNat 8 n]

/-- Two characters, high byte first (R189). -/
def w16 (n : Nat) : List Byte := [BitVec.ofNat 8 (n / 256), BitVec.ofNat 8 n]

/-- Four characters, high byte first (R189). -/
def w32 (n : Nat) : List Byte := w16 (n / 65536) ++ w16 n

/-- A signed field of two characters in two's complement (R189). A value that does not fit is a free value. -/
def w16s (x : Int) : List Byte :=
  if -32768 ≤ x ∧ x ≤ 32767 then w16 (BitVec.ofInt 16 x).toNat else w16 (Config.unfitField x).toNat

/-- A signed field of four characters in two's complement (R189). -/
def w32s (x : Int) : List Byte := w32 (BitVec.ofInt 32 x).toNat

/-- A flag as one bit at place `k`. -/
def flagBit (b : Bool) (k : Nat) : Nat := if b then 2 ^ k else 0

/-- A flag as one character. -/
def wFlag (b : Bool) : List Byte := w8 (flagBit b 0)

/-! ### The CRC (R178) -/

/-- One bit of the CRC: shift left, and subtract the polynomial 1021h where a one falls out (R178). -/
def crcShift (r : BitVec 16) : BitVec 16 := if r.msb then (r <<< 1) ^^^ 0x1021#16 else r <<< 1

/-- One character of the CRC, most significant bit first (R178). -/
def crcByte (r : BitVec 16) (c : Byte) : BitVec 16 :=
  crcShift (crcShift (crcShift (crcShift (crcShift (crcShift (crcShift (crcShift
    (r ^^^ (c.zeroExtend 16 <<< 8)))))))))

/-- The CRC of a run of characters: initial value FFFFh, no final inversion (R178). -/
def crcOf (l : List Byte) : BitVec 16 := l.foldl crcByte 0xFFFF#16

/-! ### Codes of values (R189) -/

/-- The status of a response (R189, Status codes). -/
inductive Status where
  | done
  | clamped
  | malformed
  | unknown
  | noSeat
  | notLocal
  | badGate
  | badField
  | gateDisabled
  | queueFull
  | noOrder
  | noSet
  | tooLate
  | clockUnset
  | tableFull
  | duplicate
  | badCode
  | busy
  | causePresent
  | locked
  | notEmpty
  | notIdle
  | wakePending
  | notDoubted
deriving DecidableEq, Repr

/-- The code of a status (R189, Status codes). -/
def statusCode : Status → Nat
  | .done => 0x00
  | .clamped => 0x01
  | .malformed => 0x10
  | .unknown => 0x11
  | .noSeat => 0x12
  | .notLocal => 0x13
  | .badGate => 0x14
  | .badField => 0x15
  | .gateDisabled => 0x16
  | .queueFull => 0x17
  | .noOrder => 0x18
  | .noSet => 0x19
  | .tooLate => 0x1A
  | .clockUnset => 0x1B
  | .tableFull => 0x1C
  | .duplicate => 0x1D
  | .badCode => 0x1E
  | .busy => 0x1F
  | .causePresent => 0x20
  | .locked => 0x21
  | .notEmpty => 0x22
  | .notIdle => 0x23
  | .wakePending => 0x24
  | .notDoubted => 0x25

/-- The write result of a response (R181, R189). -/
inductive WriteResult where
  | none
  | kept
  | notKept
deriving DecidableEq, Repr

/-- The code of a write result (R189, Response frame). -/
def writeResultCode : WriteResult → Nat
  | .none => 0
  | .kept => 1
  | .notKept => 2

/-- The class of a code (R189, Placement record). -/
def classOf : Nat → Option OrderClass
  | 0 => some .routine
  | 1 => some .tidal
  | 2 => some .release
  | _ => none

/-- The side of a code (R189, Placement record). -/
def weirOf : Nat → Option Weir
  | 0 => some .up
  | 1 => some .down
  | _ => none

/-- The code of a side. -/
def weirCode : Weir → Nat
  | .up => 0
  | .down => 1

/-- The scope of a code: 1–6 for G1–G6, 7 for SITE (R189, Request kinds). -/
def scopeOf (n : Nat) : Option Scope := if n = 7 then some .site else (gateOf n).map Scope.gate

/-- The code of a scope. -/
def scopeCode : Scope → Nat
  | .gate g => gateNumber g
  | .site => 7

/-- The code of an order state (R189, Order record). -/
def orderStateCode : OrderState → Nat
  | .queued => 0
  | .ready => 1
  | .inForce => 2
  | .held => 3

/-- The code of a gate state, in the order of R82 (R189). -/
def gateStateCode : GateState → Nat
  | .disabled => 0
  | .idle => 1
  | .waitGrant => 2
  | .releasing => 3
  | .travel => 4
  | .reversing => 5
  | .stopping => 6
  | .held => 7
  | .trim => 8
  | .fault => 9

/-- The code of a supply state (R189). -/
def supplyCode : SupplyState → Nat
  | .run => 0
  | .parking => 1
  | .parked => 2
  | .waking => 3

/-- The code of an outcome (R189, Further value codes). -/
def outcomeCode : Outcome → Nat
  | .arrived => 0
  | .withdrawn => 1
  | .superseded => 2
  | .overdue => 3
  | .lapsed => 4
  | .faulted => 5
  | .cleared => 6

/-- The code of a fault kind (R189, Further value codes). -/
def faultCode : FaultKind → Nat
  | .position => 0
  | .limit => 1
  | .skew => 2
  | .overload => 3
  | .slack => 4
  | .stall => 5
  | .estop => 6
  | .trim => 7

/-- The code of a hoist designation (R189, Further value codes). -/
def designationCode : Designation → Nat
  | .left => 1
  | .right => 2
  | .both => 3

/-- The code of a quality (R189, Further value codes). -/
def qualityCode : Quality → Nat
  | .good => 0
  | .single => 1
  | .disputed => 2
  | .lost => 3

/-- The code of a channel standing (R189, Further value codes). -/
def standingCode : Standing → Nat
  | .unread => 0
  | .valid => 1
  | .invalid => 2

/-- The code of a direction (R189, Further value codes). -/
def directionCode : Direction → Nat
  | .neither => 0
  | .raise => 1
  | .lower => 2

/-- The code of a reset cause (R189, Further value codes). -/
def causeCode : ResetCause → Nat
  | .power => 0
  | .brownout => 1
  | .pin => 2

/-- The code of a hold set: bit 0 ISOLATED, 1 ALL, 2 HEAD, 3 GROUP, 4 SEAT (R189, Order record). -/
def holdCode (h : HoldSet) : Nat :=
  flagBit h.isolated 0 + flagBit h.all 1 + flagBit h.head 2 + flagBit h.group 3 + flagBit h.seat 4

/-- The code of clamp flags: bit 0 target, 1 rate, 2 raise guard, 3 start level (R189). -/
def clampCode (c : ClampFlags) : Nat :=
  flagBit c.target 0 + flagBit c.rate 1 + flagBit c.guard 2 + flagBit c.level 3

/-- The baud rates by their codes (R176, R189). -/
def baudRate : Nat → Nat
  | 0 => 9600
  | 1 => 19200
  | 2 => 38400
  | _ => 115200

/-! ### The placement record (R189) -/

/-- A placement record as it is sent, before any of it is judged. -/
structure Placement where
  gate : Nat
  cls : Nat
  replace : Bool
  target : Int
  startKind : Nat
  startSide : Nat
  startParam : Nat
  rate : Option Nat
  guard : Option Int
  deadline : Option Nat
  tag : Option Nat
deriving DecidableEq, Repr

/-- The optional fields of a placement, in their order (R189, Placement record). -/
def takeOptions (opts : Nat) (p : Placement) (l : List Byte) : Option (Placement × List Byte) := do
  let (rate, l) ← takeIf (bitOf opts 0) take2 l
  let (gd, l) ← takeIf (bitOf opts 1) take2 l
  let (dl, l) ← takeIf (bitOf opts 2) take4 l
  let (tag, l) ← takeIf (bitOf opts 4) take2 l
  some ({ p with rate := rate, guard := gd.map signed16, deadline := dl, tag := tag }, l)

/-- Take one placement record: 11 characters and its optional fields (R189, Placement record). -/
def takePlacement (l : List Byte) : Option (Placement × List Byte) :=
  match l with
  | g :: c :: o :: t1 :: t0 :: k :: sd :: p3 :: p2 :: p1 :: p0 :: rest =>
    takeOptions o.toNat
      { gate := g.toNat, cls := c.toNat, replace := bitOf o.toNat 3, target := signed16 (u16 t1 t0),
        startKind := k.toNat, startSide := sd.toNat, startParam := u32 p3 p2 p1 p0, rate := none, guard := none,
        deadline := none, tag := none } rest
  | _ => none

/-- Take a number of placement records, one directly after the other. -/
def takePlacements : Nat → List Byte → Option (List Placement × List Byte)
  | 0, l => some ([], l)
  | n + 1, l =>
    match takePlacement l with
    | none => none
    | some (p, l') => (takePlacements n l').map fun x => (p :: x.1, x.2)

/-- A whole payload read by `f`, with nothing left over. -/
def whole {α : Type} (f : List Byte → Option (α × List Byte)) (l : List Byte) : Option α :=
  match f l with
  | some (a, []) => some a
  | _ => none

/-- The start of a placement: the kind with the parameters it uses, and `none` for a code not in its table (R26, R189).
The start level is clamped to −5000–15000 here, and R35 flags it. -/
def startOf (p : Placement) : Option Start :=
  match p.startKind with
  | 0 => some .immediate
  | 1 => some (.atTime p.startParam)
  | 2 => (weirOf p.startSide).map fun w => .level .rise w (clampInt (-5000) 15000 (signed32 p.startParam))
  | 3 => (weirOf p.startSide).map fun w => .level .fall w (clampInt (-5000) 15000 (signed32 p.startParam))
  | _ => none

/-- A PLACE SET as it is sent (R56, R189). -/
structure SetPlacement where
  joint : Bool
  members : List Placement
deriving DecidableEq, Repr

/-- The joint-start flag of its character: 0 clear, 1 set, and any other character a free value (R189). -/
def jointOf (c : Byte) : Bool := if c = 0#8 then false else if c = 1#8 then true else Config.jointFlag c

/-- Read a PLACE SET payload: complete, with 2 to 6 members (R56 test 2). -/
def readSetPlacement (l : List Byte) : Option SetPlacement :=
  match l with
  | j :: n :: rest =>
    if within 2 6 n.toNat then
      (whole (takePlacements n.toNat) rest).map fun ms => { joint := jointOf j, members := ms }
    else none
  | _ => none

/-! ### The amendment (R189) -/

/-- An amendment as it is sent. -/
structure Amendment where
  number : Nat
  mask : Nat
  target : Option Int
  rate : Option Nat
  guard : Option Int
  deadline : Option Nat
  tag : Option Nat
deriving DecidableEq, Repr

/-- Take one amendment: number, change mask, and the new values in mask order (R189, Amendment). -/
def takeAmendment (l : List Byte) : Option (Amendment × List Byte) := do
  let (n, l) ← take2 l
  let (mask, l) ← take2 l
  let (t, l) ← takeIf (bitOf mask 0) take2 l
  let (r, l) ← takeIf (bitOf mask 1) take2 l
  let (gd, l) ← takeIf (bitOf mask 2) take2 l
  let (dl, l) ← takeIf (bitOf mask 3) take4 l
  let (tag, l) ← takeIf (bitOf mask 4) take2 l
  some ({ number := n, mask := mask, target := t.map signed16, rate := r, guard := gd.map signed16, deadline := dl,
          tag := tag }, l)

/-- Take a number of amendments, one directly after the other. -/
def takeAmendments : Nat → List Byte → Option (List Amendment × List Byte)
  | 0, l => some ([], l)
  | n + 1, l =>
    match takeAmendment l with
    | none => none
    | some (a, l') => (takeAmendments n l').map fun x => (a :: x.1, x.2)

/-- Read an AMEND BATCH payload: one to four whole items (R48, R189). -/
def readAmendments (l : List Byte) : Option (List Amendment) :=
  match l with
  | n :: rest => if within 1 4 n.toNat then whole (takeAmendments n.toNat) rest else none
  | _ => none

/-- A mask that names at least one field and no field together with its removal (R189, Amendment). -/
def maskOk (mask : Nat) : Bool :=
  (mask % 8192 != 0) && !(bitOf mask 1 && bitOf mask 5) && !(bitOf mask 2 && bitOf mask 6) &&
    !(bitOf mask 3 && bitOf mask 7)

/-- A mask that names a field which cannot be amended: bits 8 to 12 (R36 test 4, R189). -/
def maskForbidden (mask : Nat) : Bool :=
  bitOf mask 8 || bitOf mask 9 || bitOf mask 10 || bitOf mask 11 || bitOf mask 12

/-! ### Records of responses (R189) -/

/-- The two bits of the armed field: 0 not applicable, 1 no, 2 yes (R37, R189). -/
def armedCode (o : Order) : Nat :=
  match o.start, o.state with
  | .level _ _ _, .queued => if o.armed then 2 else 1
  | _, _ => 0

/-- The start kind, side and parameter of an order record (R189). -/
def startRecord : Start → List Byte
  | .immediate => w8 0 ++ w8 0 ++ w32 0
  | .atTime t => w8 1 ++ w8 0 ++ w32 t
  | .level .rise w l => w8 2 ++ w8 (weirCode w) ++ w32s l
  | .level .fall w l => w8 3 ++ w8 (weirCode w) ++ w32s l

/-- The order record: 28 characters (R37, R189). -/
def orderRecord (g : Gate) (o : Order) (elig : Bool) (place : Nat) : List Byte :=
  w16 o.number ++ w8 (gateNumber g) ++ w8 (classRank o.cls) ++ w8 (orderStateCode o.state) ++
    w8 (flagBit o.rate.isSome 0 + flagBit o.guard.isSome 1 + flagBit o.deadline.isSome 2 + flagBit o.setNo.isSome 3) ++
    w8 (holdCode o.holds) ++
    w8 (flagBit (o.originator == .panel) 0 + flagBit elig 1 + armedCode o * 4) ++
    w16s o.target ++ w16 (o.rate.getD 0) ++ startRecord o.start ++ w16s (o.guard.getD 0) ++ w32 (o.deadline.getD 0) ++
    w16 o.tag ++ w8 (o.setNo.getD 0) ++ w8 place

/-- The order summary: 10 characters (R54, R189). -/
def orderSummary (g : Gate) (o : Order) : List Byte :=
  w16 o.number ++ w8 (gateNumber g) ++ w8 (classRank o.cls) ++ w8 (orderStateCode o.state) ++ w8 (o.setNo.getD 0) ++
    w16s o.target ++ w16 o.tag

/-- Flags of the six gates as one character, bit 0 for G1 (R189). -/
def gateBits (p : Gate → Bool) : Nat :=
  flagBit (p .g1) 0 + flagBit (p .g2) 1 + flagBit (p .g3) 2 + flagBit (p .g4) 3 + flagBit (p .g5) 4 + flagBit (p .g6) 5

/-- The notice set: 3 characters (R189). -/
def noticeRecord (n : NoticeSet) : List Byte :=
  w8 (gateBits n.outcome.get) ++ w8 (gateBits n.fault.get) ++
    w8 (flagBit n.isolation 0 + flagBit n.supply 1 + flagBit n.store 2)

/-- The last-outcome record: 14 characters, offsets 1 to 13 zero while it is empty (R52, R189). -/
def outcomeRecord : Option OutcomeRec → List Byte
  | none => w8 0 ++ (w16 0 ++ w16 0 ++ w8 0 ++ w8 0 ++ w8 0 ++ w32 0 ++ w16 0)
  | some r =>
    w8 1 ++ (w16 r.number ++ w16 r.tag ++ w8 (classRank r.cls) ++ w8 (outcomeCode r.outcome) ++
      w8 (flagBit r.second.isSome 0 + flagBit r.mean.isSome 1) ++ w32 (r.second.getD 0) ++ w16s (r.mean.getD 0))

/-- One gauge of the levels record: 5 characters (R189). -/
def gaugeRecord (m : GaugeMeas) : List Byte := w16 m.raw.toNat ++ w8 (standingCode m.standing) ++ w16s m.level

/-- The levels record: 29 characters (R18, R189). -/
def levelsRecord (m : Measurement) : List Byte :=
  gaugeRecord m.gauges.up.a ++ gaugeRecord m.gauges.up.b ++ gaugeRecord m.gauges.down.a ++ gaugeRecord m.gauges.down.b ++
    w16s m.sides.up.agreed ++ w8 (qualityCode m.sides.up.quality) ++ w16s m.sides.down.agreed ++
    w8 (qualityCode m.sides.down.quality) ++ w16s m.head ++ wFlag m.headDisputed

/-- One hoist of the hoists record: 11 characters (R18, R189). A gate without valid geometry reports its positions absent
and nothing out of bounds (R5, R16). -/
def hoistRecord (s : State) (g : Gate) (d : Side) : List Byte :=
  let m := s.hoistMeas g d
  let pos := positionOf s g d
  w16 m.posRaw.toNat ++ w16 m.loadRaw.toNat ++ w16s (pos.getD 0) ++
    w8 (flagBit pos.isSome 0 + flagBit (validPosition s g d).isSome 1 + flagBit (outOfBounds s g d) 2 +
      flagBit (m.loadStanding == .valid) 3) ++
    w16 m.load ++ w8 m.overload ++ w8 m.slack

/-- One hoist of the gate record: 4 characters (R107, R189). -/
def hduRecord (h : Hoist) : List Byte := wFlag h.brake ++ w8 (directionCode h.dir) ++ w16 h.duty

/-- The state a stop would end in, if it ended now (R95, R107). -/
def stopEnd (s : State) (g : Gate) : GateState :=
  match s.orderInForce g with
  | none => .idle
  | some o => if o.state = .held then .held else .waitGrant

/-- A place in a list, counting from 1 at the head; 0 where it is not in the list. -/
def placeIn {α : Type} (p : α → Bool) : List α → Nat
  | [] => 0
  | a :: r => if p a then 1 else if placeIn p r = 0 then 0 else placeIn p r + 1

/-- Whether a gate's phase timer is reported: in RELEASING, REVERSING and STOPPING (R107). -/
def phaseShown : GateState → Bool
  | .releasing => true
  | .reversing => true
  | .stopping => true
  | _ => false

/-- The slot standing of a gate: 0 none, 1 held, 2 waiting (R107, R189). -/
def slotStanding (s : State) (g : Gate) : Nat :=
  if holdsSlot s g then 1 else if (waitList s).contains g then 2 else 0

/-- The fault fields of the gate record: 7 characters (R189). -/
def faultRecord : Option FaultRec → List Byte
  | none => w8 0 ++ w8 0 ++ w8 0 ++ w32 0
  | some r => w8 (faultCode r.kind) ++ w8 (designationCode r.hoist) ++ w8 r.further ++ w32 (r.second.getD 0)

/-- The phase timer's remaining ms where it is reported (R107). -/
def phaseLeft (q : GateSeq) : Option Nat := if phaseShown q.st then q.phaseTimer else none

/-- The gate record: 32 characters and 3 more for each of the first eight orders of the queue (R107, R189). -/
def gateRecord (s : State) (g : Gate) : List Byte :=
  let q := s.gate g
  let o := s.orderInForce g
  let stops := q.st == .stopping
  let listed := (s.queue g).take 8
  w8 (gateStateCode q.st) ++
    w8 (flagBit o.isSome 0 + flagBit (phaseLeft q).isSome 1 + flagBit stops 2 + flagBit q.fault.isSome 3 +
      flagBit (q.fault.any fun r => r.second.isSome) 4) ++
    w8 (flagBit s.holdAll 0 + flagBit (s.isolated g) 1 + flagBit (q.st == .waitGrant && q.link.isNone) 2) ++
    w16 ((o.map fun x => x.number).getD 0) ++ w8 ((o.map fun x => classRank x.cls).getD 0) ++
    w8 ((o.map fun x => holdCode x.holds).getD 0) ++
    w8 (slotStanding s g) ++ w8 (placeIn (· == g) (waitList s)) ++ w16 ((phaseLeft q).getD 0) ++
    w8 (if stops then gateStateCode (stopEnd s g) else 0) ++ w16s q.vPrev ++ w8 q.settle ++
    hduRecord q.hoists.left ++ hduRecord q.hoists.right ++ w8 (s.queue g).length ++ faultRecord q.fault ++
    w8 listed.length ++ listed.flatMap fun x => w16 x.number ++ w8 (orderStateCode x.state)

/-- The set record: 3 characters and 4 more for each live member (R61, R189). -/
def setRecord (s : State) (r : SetRec) : List Byte :=
  w8 r.number ++ w8 (flagBit r.joint 0 + flagBit r.allReady 1 + flagBit r.broken 2) ++ w8 r.members.length ++
    r.members.flatMap fun n =>
      match s.findOrder n with
      | some (g, o) => w16 n ++ w8 (gateNumber g) ++ w8 (orderStateCode o.state)
      | none => []

/-- One entry of the isolation list: 9 characters, its code never among them (R159, R189). -/
def isoEntryRecord (place : Nat) (e : IsoEntry) : List Byte :=
  w8 place ++ w8 (scopeCode e.scope) ++ w16 e.crew ++
    w8 (flagBit (e.port == .panel) 0 + flagBit e.second.isSome 1 + flagBit e.kept 2) ++ w32 (e.second.getD 0)

/-- The entries of an isolation list, their places counting on from `place`. -/
def isoEntryRecords : Nat → List IsoEntry → List Byte
  | _, [] => []
  | place, e :: rest => isoEntryRecord place e ++ isoEntryRecords (place + 1) rest

/-- Whether an isolation write is in flight (R159). -/
def isolationInFlight (s : State) : Bool :=
  match s.nvs.flight with
  | some (.isolation _) => true
  | _ => false

/-- Whether a settings write is in flight (R193, R194). -/
def settingsInFlight (s : State) : Bool :=
  match s.nvs.flight with
  | some (.settings _) => true
  | _ => false

/-- The isolation list from a start place, up to 12 entries (R159, R189). -/
def isolationList (s : State) (start : Nat) : List Byte :=
  let rest := s.isolations.entries.drop (start - 1)
  let shown := rest.take 12
  w8 (flagBit s.isolations.doubt 0 + flagBit s.nvs.isolationJob 1 + flagBit (isolationInFlight s) 2 +
      flagBit (Nat.blt 12 rest.length) 3) ++
    w8 s.isolations.entries.length ++ w8 (gateBits s.isolated) ++ w8 shown.length ++ isoEntryRecords start shown

/-- The rank of a holder in the supply record: 3 for trim, the class of its order in force, or free where it has none
(R173, R189). -/
def holderRank (s : State) (g : Gate) : List Byte :=
  if (s.gate g).st = .trim then w8 3
  else
    match s.orderInForce g with
    | some o => w8 (classRank o.cls)
    | none => [Config.rankWithoutOrder g]

/-- The rank of a waiting gate in the supply record: 3 for a trim wait (R173, R189). -/
def waiterRank (s : State) (g : Gate) : Nat :=
  match s.orderInForce g with
  | some o => classRank o.cls
  | none => 3

/-- Whether the supply's phase timer is reported: in PARKING and WAKING (R173). -/
def supplyPhaseShown : SupplyState → Bool
  | .parking => true
  | .waking => true
  | _ => false

/-- The supply record: 11 characters, 4 more for each holder and 2 more for each waiting gate (R173, R189). -/
def supplyRecord (s : State) (found : SupplyState) : List Byte :=
  let left := if supplyPhaseShown s.supply.st then s.supply.phase else none
  w8 (supplyCode found) ++ w8 (supplyCode s.supply.st) ++
    w8 (flagBit (s.supply.source == .battery) 0 + flagBit s.lines.mainsOk 1 + flagBit s.supply.driveSupply 2 +
      flagBit left.isSome 3) ++
    w16 (left.getD 0) ++ w8 s.arbiter.limit ++ w8 s.settings.site.limitMains ++ w8 s.settings.site.limitBattery ++
    w8 (causeCode s.supply.cause) ++ w8 s.arbiter.holders.length ++ w8 (waitList s).length ++
    (s.arbiter.holders.flatMap fun h =>
      w8 (gateNumber h.gate) ++ w8 (gateStateCode (s.gate h.gate).st) ++ holderRank s h.gate ++ wFlag h.named) ++
    (waitList s).flatMap fun g => w8 (gateNumber g) ++ w8 (waiterRank s g)

/-- The identity record: 9 characters (R187, R189). -/
def identityRecord (s : State) (p : Port) : List Byte :=
  w16 Config.deviceCode ++ w8 Config.designIssue ++ w8 s.address ++ w8 s.baud ++
    w8 (flagBit (p == .panel) 0 + flagBit (s.seat == .panel) 1 + flagBit s.lines.localKey 2 + flagBit s.lines.estop 3 +
      flagBit s.lines.mainsOk 4) ++
    w8 (flagBit s.nvs.settingsLost 0 + flagBit s.isolations.doubt 1 + flagBit s.clock.isSet 2) ++
    w8 s.liveCount ++ w8 s.store.sets.length

end Sys2Proof.Machine
end

