-- ==== Sys2Proof/Machine/Sequencer.lean ====
section
/-! DEFINITION. What the Order Store and the gate sequencers do together within one event: holds (R98, R99), the fault
stop (R128), retirement (R51), the loss of the order in force (R96), the entry to IDLE (R84), the taking of force (R85),
preemption (R87), the store's tests (R46, R47), and the arbiter's grant test at the close of the event (R163).

An operation that can call for the store's tests answers the gates to be tested beside the state. `runTests` makes the
tests, each taken whole with what follows from it, and `finish` closes the event. -/

namespace Sys2Proof.Machine

/-! ### Holds (R98, R99) -/

/-- An order with a hold reason added: HELD (R33, R98). -/
def Order.withReason (r : HoldReason) (x : Order) : Order := { x with state := .held, holds := x.holds.put r true }

/-- An order with a hold reason removed: IN_FORCE once its hold set is left empty (R33, R99). -/
def Order.withoutReason (r : HoldReason) (x : Order) : Order :=
  { x with state := if (x.holds.put r false).isEmpty then .inForce else x.state, holds := x.holds.put r false }

/-- What a gate does as a hold reason is added to its order in force (R98). -/
def gateHeld (g : Gate) (s : State) : State :=
  match (s.gate g).st with
  | .waitGrant => enterHeld g (leaveWait g s)
  | .releasing => enterStopping g s
  | .travel => enterStopping g s
  | .reversing => enterStopping g s
  | _ => s

/-- What a gate does as its order in force becomes IN_FORCE again (R99). -/
def gateFreed (g : Gate) (s : State) : State :=
  match (s.gate g).st with
  | .held => enterWaitGrant g s
  | _ => s

/-- Add a hold reason to a gate's order in force (R98). A reason already present, or a gate with no order in force,
changes nothing. -/
def addHold (g : Gate) (r : HoldReason) (s : State) : State :=
  match s.orderInForce g with
  | none => s
  | some o => if o.holds.has r then s else gateHeld g (s.updOrder g o.number (Order.withReason r))

/-- Remove a hold reason from a gate's order in force (R99). A reason that is not present is not removed. -/
def removeHold (g : Gate) (r : HoldReason) (s : State) : State :=
  match s.orderInForce g with
  | none => s
  | some o =>
    if o.holds.has r then
      let s1 := s.updOrder g o.number (Order.withoutReason r)
      if (o.holds.put r false).isEmpty then gateFreed g s1 else s1
    else s

/-- Whether a gate's order in force carries a reason. -/
def carries (s : State) (g : Gate) (r : HoldReason) : Bool :=
  match s.orderInForce g with
  | some o => o.holds.has r
  | none => false

/-! ### Faults without a retirement (R128 steps 1, 2 and 4; R130, R131) -/

/-- Step 1 and step 2 of the fault stop: the gate enters FAULT, its lines off and its timers cancelled, and its fault
record is written (R128, R130). -/
def enterFault (g : Gate) (k : FaultKind) (d : Designation) (s : State) : State :=
  noticeFault g ((enterAtRest .fault none g s).updGate g fun q =>
    { q with fault := some { kind := k, hoist := d, second := s.stamp, further := 0 } })

/-- A further fault: the count rises to at most 15, and a raise sets the FAULT flag (R131). -/
def furtherFault (g : Gate) (s : State) : State :=
  match (s.gate g).fault with
  | none => s
  | some r =>
    if r.further < 15 then
      noticeFault g (s.updGate g fun q => { q with fault := some { r with further := r.further + 1 } })
    else s

/-- The fault record is emptied; if it was not already empty the FAULT flag is set (R83, R106, R130). -/
def emptyFault (g : Gate) (s : State) : State :=
  match (s.gate g).fault with
  | none => s
  | some _ => noticeFault g (s.updGate g fun q => { q with fault := none })

/-! ### The entry to IDLE (R84, R15) -/

/-- A gate with no order in force enters IDLE: its motion context is cleared, then the MU tests both position channels
(R15), and a gate that fails the test is in FAULT in the same event (R133). A gate still in IDLE is to be tested by the
store. -/
def enterIdle (g : Gate) (s : State) : State × List Gate :=
  let s1 := (enterAtRest .idle none g s).updGate g fun q =>
    { q with link := none, vPrev := 0, settle := 0, window := none }
  match badChannels s1 g with
  | some d => (enterFault g .position d s1, [])
  | none => (s1, [g])

/-! ### Losing the order in force (R96) -/

/-- The gate's link to its order in force ends, and the gate acts as its state gives (R96). -/
def loseOrder (g : Gate) (s : State) : State × List Gate :=
  let s1 := s.updGate g fun q => { q with link := none }
  match (s.gate g).st with
  | .waitGrant => enterIdle g (leaveWait g s1)
  | .releasing => (enterStopping g s1, [])
  | .travel => (enterStopping g s1, [])
  | .reversing => (enterStopping g s1, [])
  | .held => enterIdle g s1
  | _ => (s1, [])

/-! ### Sets (R51, R58, R59) -/

/-- Whether the live order of a number is READY. -/
def isReady (s : State) (n : Nat) : Bool :=
  match s.findOrder n with
  | some (_, o) => o.state == .ready
  | none => false

/-- Whether every live member of a set is READY (R58). -/
def allMembersReady (s : State) (r : SetRec) : Bool := r.members.all (isReady s)

/-- Replace the record of a set's number by `f` of it. -/
def updSet (k : Nat) (f : SetRec → SetRec) (s : State) : State :=
  s.updSets (List.map fun r => if r.number = k then f r else r)

/-- The gates on which a set has a member, in gate order. -/
def memberGates (s : State) (k : Nat) : List Gate :=
  Gate.all.filter fun g => (s.queue g).any fun o => o.setNo == some k

/-- The gates on which a set has a READY member, in gate order. -/
def readyGates (s : State) (k : Nat) : List Gate :=
  Gate.all.filter fun g => (s.queue g).any fun o => o.setNo == some k && o.state == .ready

/-- Test a set for its all-ready mark (R58). A set without joint start records the mark all the same. Only a joint-start
set's mark changes its members' eligibility, so only it calls for the tests of R46 and R47. -/
def testAllReady (k : Nat) (s : State) : State × List Gate :=
  match s.findSet k with
  | none => (s, [])
  | some r =>
    if !r.allReady && allMembersReady s r then
      (updSet k (fun x => { x with allReady := true }) s, if r.joint then readyGates s k else [])
    else (s, [])

/-- A retired order leaves its set: a FAULTED member breaks it, an empty set dissolves, and the going may complete the
all-ready mark (R51). -/
def leaveSet (n : Nat) (oc : Outcome) (k : Nat) (s : State) : State × List Gate :=
  let s1 := updSet k (fun x =>
    { x with members := x.members.filter (· != n), broken := x.broken || oc == .faulted }) s
  let s2 := s1.updSets (List.filter fun r => !(r.number == k && r.members.isEmpty))
  testAllReady k s2

/-- GROUP falls on every member in force of a broken set, gate by gate (R59, R104). -/
def groupHolds (k : Nat) (s : State) : State :=
  Gate.all.foldl (fun acc g =>
    match acc.orderInForce g with
    | some o => if o.setNo = some k then addHold g .group acc else acc
    | none => acc) s

/-! ### Retirement (R51) -/

/-- The last-outcome record of a retiring order, and its OUTCOME flag (R51, R52). -/
def recordOutcome (g : Gate) (o : Order) (oc : Outcome) (s : State) : State :=
  noticeOutcome g (s.updGate g fun q =>
    { q with outcome := some { number := o.number, tag := o.tag, cls := o.cls, outcome := oc, second := s.stamp,
                               mean := meanPosition s g } })

/-- A retired order leaves the set it is a member of, if any (R51). -/
def leaveOwnSet (n : Nat) (oc : Outcome) (set : Option Nat) (s : State) : State × List Gate :=
  match set with
  | none => (s, [])
  | some k => leaveSet n oc k s

/-- A FAULTED retirement puts GROUP on the members in force of its set, if any (R59). -/
def groupOwnSet (oc : Outcome) (set : Option Nat) (s : State) : State :=
  match set with
  | none => s
  | some k => if oc = .faulted then groupHolds k s else s

/-- The single retirement rule (R51): the order leaves its queue and its set, the last-outcome record is replaced, and an
order in force leaves its gate. A set newly broken puts GROUP on its members in force. -/
def retire (g : Gate) (n : Nat) (oc : Outcome) (s : State) : State × List Gate :=
  match s.orderIn g n with
  | none => (s, [])
  | some o =>
    let r2 := leaveOwnSet n oc o.setNo (s.updQueue g (List.filter fun x => x.number != n))
    let s3 := recordOutcome g o oc r2.1
    let r4 := if (s.gate g).link = some n then loseOrder g s3 else (s3, [])
    (groupOwnSet oc o.setNo r4.1, r4.2 ++ r2.2)

/-! ### The fault stop (R127, R128) -/

/-- The fault stop, in the order of R128: FAULT and the record, the order in force FAULTED, then the slot or the wait. -/
def faultStop (g : Gate) (k : FaultKind) (d : Designation) (s : State) : State × List Gate :=
  let s1 := enterFault g k d s
  match (s.gate g).link with
  | some n =>
    let r := retire g n .faulted s1
    (leaveWait g (releaseSlot g r.1), r.2)
  | none => (leaveWait g (releaseSlot g s1), [])

/-- A fault raised on a gate's sequencer: nothing in DISABLED, a further fault in FAULT, else the fault stop (R127). -/
def raiseFault (g : Gate) (k : FaultKind) (d : Designation) (s : State) : State × List Gate :=
  match (s.gate g).st with
  | .disabled => (s, [])
  | .fault => (furtherFault g s, [])
  | _ => faultStop g k d s

/-! ### Taking force and preemption (R85 to R87) -/

/-- Link an order as the gate's order in force with its hold set computed afresh (R85 steps 1 and 2). -/
def linkOrder (g : Gate) (n : Nat) (s : State) : State :=
  let h := standingHolds s g
  (s.updOrder g n fun x =>
    { x with state := if h.isEmpty then .inForce else .held, holds := h }).updGate g fun q => { q with link := some n }

/-- A gate in IDLE takes a READY order into force (R85). -/
def takeForce (g : Gate) (o : Order) (s : State) : State × List Gate :=
  let s1 := linkOrder g o.number s
  match boundsFault s1 g with
  | some d => faultStop g .limit d s1
  | none =>
    if (standingHolds s g).isEmpty then
      if arrivedNow s1 g o then
        let r := retire g o.number .arrived s1
        (r.1, r.2 ++ [g])
      else (enterWaitGrant g s1, [])
    else (enterHeld g s1, [])

/-- The old order of a preemption goes back to READY with an empty hold set (R32, R87). A set of which it is a member is
tested for its all-ready mark (R58); a joint-start set with a member in force has seen it, so no test follows. -/
def backToReady (g : Gate) (o : Order) (s : State) : State :=
  let s1 := s.updOrder g o.number fun x => { x with state := .ready, holds := .none }
  match o.setNo with
  | none => s1
  | some k => (testAllReady k s1).1

/-- An eligible order of strictly higher class takes force in place of the order in force (R87). -/
def preempt (g : Gate) (o cur : Order) (s : State) : State × List Gate :=
  let s1 := (linkOrder g o.number (backToReady g cur s)).updGate g fun q => { q with settle := 0 }
  match boundsFault s1 g with
  | some d => faultStop g .limit d s1
  | none =>
    if (standingHolds s g).isEmpty then
      match (s.gate g).st with
      | .waitGrant =>
        if arrivedNow s1 g o then retire g o.number .arrived s1
        else (callGrantTest s1, [])
      | .held => if arrivedNow s1 g o then retire g o.number .arrived s1 else (enterWaitGrant g s1, [])
      | _ => (s1, [])
    else
      match (s.gate g).st with
      | .waitGrant => (enterHeld g (leaveWait g s1), [])
      | .releasing => (enterStopping g s1, [])
      | .travel => (enterStopping g s1, [])
      | .reversing => (enterStopping g s1, [])
      | _ => (s1, [])

/-! ### The store's tests (R46, R47) -/

/-- The store's test of one gate: the taking of force in IDLE (R46), preemption while an order is in force and the gate
is in WAIT_GRANT, RELEASING, TRAVEL, REVERSING or HELD (R47). -/
def storeTest (g : Gate) (s : State) : State × List Gate :=
  match firstEligible s g with
  | none => (s, [])
  | some o =>
    match (s.gate g).st with
    | .idle => takeForce g o s
    | .disabled => (s, [])
    | .stopping => (s, [])
    | .trim => (s, [])
    | .fault => (s, [])
    | _ =>
      match s.orderInForce g with
      | none => (s, [])
      | some cur => if classRank cur.cls < classRank o.cls then preempt g o cur s else (s, [])

/-- Make the store's tests of the gates given, each whole with the tests that follow from it. Each test uses one unit of
fuel. -/
def runTests : Nat → List Gate → State → State
  | 0, _, s => s
  | _, [], s => s
  | fuel + 1, g :: rest, s =>
    let r := storeTest g s
    runTests fuel (r.2 ++ rest) r.1

/-- Fuel that the tests of an event do not use up: a test calls for others only by retiring an order, and then for at
most seven. -/
def testFuel (s : State) (gs : List Gate) : Nat := gs.length + 8 * s.liveCount

/-- Make the store's tests of the gates given. -/
def storeTests (gs : List Gate) (s : State) : State := runTests (testFuel s gs) gs s

/-- An operation followed by the tests it calls for, the retirement or fault taken whole. -/
def settle (r : State × List Gate) : State := storeTests r.2 r.1

/-! ### The grant test at the close of an event (R163) -/

/-- Grant a slot to a gate: it leaves the wait list, is the latest holder, and enters RELEASING, or TRIM from a trim wait
(R88, R138, R163). -/
def grant (g : Gate) (s : State) : State :=
  let s1 := (leaveWait g s).updArbiter fun a => { a with holders := a.holders ++ [{ gate := g, named := false }] }
  match (s.gate g).link with
  | some _ => enterReleasing g s1
  | none => enterTrim g s1

/-- Grant slots to the head of the wait list while the holders number fewer than the limit (R163). -/
def grantAll : Nat → State → State
  | 0, s => s
  | fuel + 1, s =>
    if s.arbiter.holders.length < s.arbiter.limit then
      match waitList s with
      | [] => s
      | g :: _ => grantAll fuel (grant g s)
    else s

/-- The close of an event: the gates that joined the wait list in it stand behind the others in gate order (R162), and the
grant test is made where the event calls for it (R163). -/
def closeEvent (s : State) : State :=
  let s1 := s.updArbiter fun a =>
    { a with waiters := a.waiters ++ Gate.all.filter (fun g => a.fresh.contains g), fresh := [], due := false }
  if s.arbiter.due then grantAll s1.arbiter.waiters.length s1 else s1

/-- The store's tests that an event calls for, and its close. -/
def finish (gs : List Gate) (s : State) : State := closeEvent (storeTests gs s)

end Sys2Proof.Machine
end

