-- ==== Sys2Proof/Machine/Supply.lean ====
section
/-! DEFINITION. The drive limit and its reclaims (R161, R165, R166), the start of a scan and its following of the supply
(R2, R3), and the supply states with their wake conditions (R167 to R172). -/

namespace Sys2Proof.Machine

/-! ### The drive limit and the reclaim -/

/-- The drive limit of a supply state and source (R161). -/
def limitOf (st : SupplyState) (src : Source) (site : SiteSettings) : Nat :=
  match st, src with
  | .run, .mains => site.limitMains
  | .run, .battery => site.limitBattery
  | _, _ => 0

/-- Whether a holder is running, that is, not in STOPPING (R165). -/
def running (s : State) (h : Holder) : Bool := (s.gate h.gate).st != .stopping

/-- The running holders, in grant order. -/
def runningHolders (s : State) : List Holder := s.arbiter.holders.filter (running s)

/-- The holder a reclaim names: of lowest rank, and among equal ranks the one granted most recently (R165). -/
def reclaimChoice (s : State) : Option Gate :=
  (runningHolders s).foldl (fun best h =>
    match best with
    | none => some h.gate
    | some b => if classRank (waitRank s h.gate) ≤ classRank (waitRank s b) then some h.gate else some b) none

/-- Mark a holder as named for reclaim (R165, R166). -/
def markNamed (p : Holder → Bool) (s : State) : State :=
  s.updArbiter fun a => { a with holders := a.holders.map fun h => if p h then { h with named := true } else h }

/-- A gate named for reclaim stops, or takes a TRIM fault in TRIM (R97, R142, R165). -/
def nameGate (g : Gate) (s : State) : State × List Gate :=
  let s1 := markNamed (fun h => h.gate == g) s
  match (s.gate g).st with
  | .trim => faultStop g .trim .both s1
  | _ => (enterStopping g s1, [])

/-- Name running holders while they outnumber the limit (R165). -/
def reclaimAll : Nat → State → State × List Gate
  | 0, s => (s, [])
  | fuel + 1, s =>
    if s.arbiter.limit < (runningHolders s).length then
      match reclaimChoice s with
      | none => (s, [])
      | some g =>
        let r := nameGate g s
        let r' := reclaimAll fuel r.1
        (r'.1, r.2 ++ r'.2)
    else (s, [])

/-- Bring the drive limit to what the supply state and source give (R161). A rise calls for the grant test; a fall below
the number of holders makes a reclaim, in which the holders in STOPPING are taken as named already (R165). -/
def applyLimit (s : State) : State × List Gate :=
  let l := limitOf s.supply.st s.supply.source s.settings.site
  let s1 := setLimit l s
  if s.arbiter.limit < l then (callGrantTest s1, [])
  else if l < s.arbiter.limit && Nat.blt l s.arbiter.holders.length then
    reclaimAll s.arbiter.holders.length (markNamed (fun h => !running s h) s1)
  else (s1, [])

/-! ### Scans -/

/-- The scan mode of a supply state (R2, R167). -/
def scanMode : SupplyState → ScanMode
  | .parked => .levelsOnly
  | _ => .full

/-- The period that runs from the start of a scan (R2). -/
def scanPeriod : ScanMode → Nat
  | .full => Config.fullScanTime
  | .levelsOnly => Config.levelsScanTime

/-- The first channel of a scan (R2). -/
def firstChannel : ScanMode → Nat
  | .full => 1
  | .levelsOnly => 25

/-- A scan starts in the mode of the supply state, and the scan timer restarts (R2). -/
def startScan (s : State) : State :=
  let m := scanMode s.supply.st
  { s with measure := { s.measure with
      scan := some { mode := m, next := firstChannel m }, scanTimer := some (scanPeriod m), sinceScan := 0,
      fullDue := false } }

/-- The supply enters PARKED: the scan timer is set to expire 10 s after the start of the most recent scan (R3). -/
def parkScan (s : State) : State :=
  { s with measure := { s.measure with
      scanTimer := some (Config.levelsScanTime - s.measure.sinceScan), fullDue := false } }

/-- The supply leaves PARKED for WAKING: the timer is cancelled and a full scan starts, at once or at the end of the scan
in progress (R3). R3 speaks of a levels-only scan in progress; a full scan still in progress (the drop-out expiry fell
inside it) is treated the same, so that a further full scan starts at its end (DESIGN CHOICE, notes/assumptions 35). -/
def wakeScan (s : State) : State :=
  match s.measure.scan with
  | none => startScan s
  | some _ => { s with measure := { s.measure with scanTimer := none, fullDue := true } }

/-! ### The supply states -/

/-- The supply enters a state with DRIVE_SUPPLY and the phase timer of R167; each change after start-up sets SUPPLY. -/
def enterSupply (st : SupplyState) (drive : Bool) (phase : Timer) (s : State) : State :=
  noticeSupply { s with supply := { s.supply with st := st, driveSupply := drive, phase := phase } }

/-- A wake condition (R171): PARKING and PARKED pass to WAKING with the settle timer started; RUN and WAKING do nothing,
and none is taken before the end of start-up (R175). The limit is 0 in all three states. -/
def wake (s : State) : State :=
  if s.started then
    match s.supply.st with
    | .parking => enterSupply .waking true (some Config.settleTime) s
    | .parked => wakeScan (enterSupply .waking true (some Config.settleTime) s)
    | .run => s
    | .waking => s
  else s

/-- Whether every gate lets the device park: in IDLE, FAULT or DISABLED, and no gate in IDLE with a READY and eligible
order (R169 test 4). -/
def readyToPark (s : State) : Bool :=
  Gate.all.all fun g =>
    match (s.gate g).st with
    | .idle => (firstEligible s g).isNone
    | .fault => true
    | .disabled => true
    | _ => false

end Sys2Proof.Machine
end

