-- ==== Sys2Proof/Machine/Links.lean ====
section
/-! DEFINITION. The link units' handling of a request (R178 to R183): the kinds and their seat needs, the response frame,
one request per port, and the write jobs a waiting request hangs on (R154, R195). -/

namespace Sys2Proof.Machine

/-! ### Kinds (R183, R189) -/

/-- The request kinds of the kind table (R189, Request kinds). -/
inductive Kind where
  | placeOrder
  | placeSet
  | amendOrder
  | amendBatch
  | withdrawOrder
  | withdrawGate
  | releaseSet
  | readOrder
  | listOrders
  | readSet
  | readGate
  | readOutcome
  | clearFault
  | resetGate
  | holdAll
  | releaseAll
  | stopAll
  | placeIsolation
  | removeIsolation
  | listIsolations
  | confirmIsolations
  | readLevels
  | readHoists
  | setClock
  | readClock
  | park
  | readSupply
  | apportion
  | clearStore
  | putSetting
  | getSetting
  | keepSettings
  | lockGeometry
  | unlockGeometry
  | readNotices
  | identify
deriving DecidableEq, Repr

/-- The code of a kind (R189, Request kinds). -/
def kindCode : Kind → Byte
  | .placeOrder => 0x10
  | .placeSet => 0x11
  | .amendOrder => 0x12
  | .amendBatch => 0x13
  | .withdrawOrder => 0x14
  | .withdrawGate => 0x15
  | .releaseSet => 0x16
  | .readOrder => 0x17
  | .listOrders => 0x18
  | .readSet => 0x19
  | .readGate => 0x20
  | .readOutcome => 0x21
  | .clearFault => 0x22
  | .resetGate => 0x23
  | .holdAll => 0x24
  | .releaseAll => 0x25
  | .stopAll => 0x26
  | .placeIsolation => 0x30
  | .removeIsolation => 0x31
  | .listIsolations => 0x32
  | .confirmIsolations => 0x33
  | .readLevels => 0x40
  | .readHoists => 0x41
  | .setClock => 0x48
  | .readClock => 0x49
  | .park => 0x50
  | .readSupply => 0x51
  | .apportion => 0x58
  | .clearStore => 0x59
  | .putSetting => 0x60
  | .getSetting => 0x61
  | .keepSettings => 0x62
  | .lockGeometry => 0x63
  | .unlockGeometry => 0x64
  | .readNotices => 0x70
  | .identify => 0x71

/-- Every kind. -/
def allKinds : List Kind :=
  [.placeOrder, .placeSet, .amendOrder, .amendBatch, .withdrawOrder, .withdrawGate, .releaseSet, .readOrder, .listOrders,
    .readSet, .readGate, .readOutcome, .clearFault, .resetGate, .holdAll, .releaseAll, .stopAll, .placeIsolation,
    .removeIsolation, .listIsolations, .confirmIsolations, .readLevels, .readHoists, .setClock, .readClock, .park,
    .readSupply, .apportion, .clearStore, .putSetting, .getSetting, .keepSettings, .lockGeometry, .unlockGeometry,
    .readNotices, .identify]

/-- The kind of a code, where it is in the kind table (R180 test 1). -/
def kindOf (c : Byte) : Option Kind := allKinds.find? fun k => kindCode k == c

/-- What a kind needs of the port it comes by (R183). -/
inductive SeatNeed where
  | seat
  | localPanel
  | none
deriving DecidableEq, Repr

/-- The seat need of a kind (R183). -/
def seatNeed : Kind → SeatNeed
  | .placeOrder => .seat
  | .placeSet => .seat
  | .amendOrder => .seat
  | .amendBatch => .seat
  | .withdrawOrder => .seat
  | .withdrawGate => .seat
  | .releaseSet => .seat
  | .readOrder => .none
  | .listOrders => .none
  | .readSet => .none
  | .readGate => .none
  | .readOutcome => .none
  | .clearFault => .seat
  | .resetGate => .seat
  | .holdAll => .none
  | .releaseAll => .seat
  | .stopAll => .seat
  | .placeIsolation => .none
  | .removeIsolation => .none
  | .listIsolations => .none
  | .confirmIsolations => .localPanel
  | .readLevels => .none
  | .readHoists => .none
  | .setClock => .seat
  | .readClock => .none
  | .park => .seat
  | .readSupply => .none
  | .apportion => .seat
  | .clearStore => .seat
  | .putSetting => .seat
  | .getSetting => .none
  | .keepSettings => .seat
  | .lockGeometry => .seat
  | .unlockGeometry => .localPanel
  | .readNotices => .none
  | .identify => .none

/-- The refusal of a port that does not meet a kind's seat need (R180 test 2, R183). -/
def seatRefusal (n : SeatNeed) (p : Port) (s : State) : Option Status :=
  match n with
  | .none => none
  | .seat => if p = s.seat then none else some .noSeat
  | .localPanel => if p = .panel ∧ s.lines.localKey = true then none else some .notLocal

/-! ### What judging a request comes to -/

/-- A request as the owning block sees it: its port, its payload, and the supply state found at the frame's arrival
(R173). -/
structure Request where
  port : Port
  payload : List Byte
  found : SupplyState
deriving DecidableEq, Repr

/-- What a request comes to: an answer in its own event, or an accepted request that waits on a write (R179). -/
inductive Verdict where
  | answer (st : Status) (payload : List Byte)
  | wait (what : Waiting)
deriving DecidableEq, Repr

/-- A refusal with its index (R181). -/
def refuse (st : Status) (index : Nat) : Verdict := .answer st (w8 index)

/-- The status of an accepted request: CLAMPED if anything was clamped, else DONE (R35, R36, R192). -/
def doneOr (clamped : Bool) : Status := if clamped then .clamped else .done

/-! ### Responses (R181) -/

/-- The characters of a response over which its CRC is computed: address, length, kind, sequence, status, write result
and payload (R181, R189). -/
def responseBody (address : Nat) (kind seq : Byte) (st : Status) (wr : WriteResult) (payload : List Byte) : List Byte :=
  w8 address ++ w8 (payload.length + 4) ++ [kind ||| 0x80#8, seq] ++ w8 (statusCode st) ++ w8 (writeResultCode wr) ++
    payload

/-- The response frame (R181, R189). -/
def responseFrame (address : Nat) (kind seq : Byte) (st : Status) (wr : WriteResult) (payload : List Byte) :
    List Byte :=
  let body := responseBody address kind seq st wr payload
  Config.lead :: (body ++ w16 (crcOf body).toNat)

/-- A port holds a request with its response formed (R179, R181). -/
def answerOn (p : Port) (kind seq : Byte) (st : Status) (wr : WriteResult) (payload : List Byte) (s : State) : State :=
  s.updLink p fun k =>
    { k with request := some { kind := kind, seq := seq,
                               progress := .ready (responseFrame s.address kind seq st wr payload) },
             delay := some Config.responseDelay }

/-- A port holds a request that waits on a write (R179). -/
def waitOn (p : Port) (kind seq : Byte) (what : Waiting) (s : State) : State :=
  s.updLink p fun k =>
    { k with request := some { kind := kind, seq := seq, progress := .waiting false what },
             delay := some Config.responseDelay }

/-! ### Write jobs (R154, R195) -/

/-- Whether a waiting request waits on the settings area. -/
def waitsOnSettings : Waiting → Bool
  | .settings => true
  | _ => false

/-- The requests that wait on the job being started are from now on waiting on its write (R154). -/
def markStarted (settings : Bool) (k : Link) : Link :=
  match k.request with
  | some r =>
    match r.progress with
    | .waiting _ what =>
      if waitsOnSettings what = settings then { k with request := some { r with progress := .waiting true what } } else k
    | _ => k
  | none => k

/-- The image of the isolation table: its entries without their Kept marks, and STORE_DOUBT (R156). -/
def Isolations.image (t : Isolations) : IsoImage := { entries := t.entries.map fun e => e.toIsoRecord, doubt := t.doubt }

/-- The NVS starts a write if none is in flight: the pending isolation job if there is one, otherwise the pending settings
job. The image is formed at the start (R154, R156, R194, R195). -/
def startWrite (s : State) : State :=
  match s.nvs.flight with
  | some _ => s
  | none =>
    if s.nvs.isolationJob then
      { s with
        nvs := { s.nvs with
          isolationJob := false, timer := some Config.isolationWriteTime,
          flight := some (.isolation s.isolations.image) }
        links := ⟨markStarted false s.links.station, markStarted false s.links.panel⟩ }
    else if s.nvs.settingsJob then
      { s with
        nvs := { s.nvs with settingsJob := false, timer := some Config.settingsWriteTime,
                            flight := some (.settings s.settings) }
        links := ⟨markStarted true s.links.station, markStarted true s.links.panel⟩ }
    else s

/-- A request asks for a write: its area's job is made pending, or the pending one is joined, and the NVS starts a write
if none is in flight (R154, R195). -/
def askWrite (what : Waiting) (s : State) : State :=
  startWrite (if waitsOnSettings what then { s with nvs := { s.nvs with settingsJob := true } }
    else { s with nvs := { s.nvs with isolationJob := true } })

/-! ### The arrival of a request (R178, R179, R180) -/

/-- What a block does with a request that has passed tests 1 and 2 of R180. -/
abbrev Handler := Request → State → State × Verdict

/-- A request held by its port is judged and served in its own event, up to its response or its wait (R179, R180). A kind
outside the kind table is refused UNKNOWN. -/
def serve (p : Port) (kind seq : Byte) (payload : List Byte) (found : SupplyState) (h : Option (SeatNeed × Handler))
    (s : State) : State :=
  match h with
  | none => answerOn p kind seq .unknown .none (w8 0) s
  | some (need, f) =>
    match seatRefusal need p s with
    | some st => answerOn p kind seq st .none (w8 0) s
    | none =>
      let r := f { port := p, payload := payload, found := found } s
      match r.2 with
      | .answer st pl => answerOn p kind seq st .none pl r.1
      | .wait what => askWrite what (waitOn p kind seq what r.1)

/-- Whether a port owes a response (R179). -/
def owes (s : State) (p : Port) : Bool := (s.link p).request.isSome

/-- Whether a port receives: after start-up, and on the station port not while its driver is enabled (R181, R188). -/
def receives (s : State) (p : Port) : Bool := s.started && !(p == .station && s.stationDriver)

/-- A frame addressed to the device has arrived: it is a wake condition (R171), and unless the port owes a response its
request is taken and served in the same event (R178, R179). -/
def arrive (p : Port) (kind seq : Byte) (payload : List Byte) (h : Option (SeatNeed × Handler)) (s : State) : State :=
  if owes s p then wake s else serve p kind seq payload s.supply.st h (wake s)

/-- A request command: a whole, good frame that carries the request arrives at the port. A port that receives nothing, and
a device with no address (R176), take nothing. -/
def requestArrives (p : Port) (k : Kind) (seq : Byte) (payload : List Byte) (f : Handler) (s : State) : State :=
  if receives s p && s.address != 0 then arrive p (kindCode k) seq payload (some (seatNeed k, f)) s else s

/-- A request kind whose payload is empty (R189): anything else is MALFORMED. -/
def withoutPayload (f : State → State × Verdict) : Handler := fun r s =>
  if r.payload = [] then f s else (s, refuse .malformed 0)

/-- A request kind whose payload names one gate (R189): MALFORMED for any other length, BAD_GATE outside 1–6. -/
def withGate (f : Gate → State → State × Verdict) : Handler := fun r s =>
  match r.payload with
  | [c] =>
    match gateOf c.toNat with
    | some g => f g s
    | none => (s, refuse .badGate 0)
  | _ => (s, refuse .malformed 0)

/-- A request kind whose payload is one number of two characters (R189). -/
def withNumber (f : Nat → State → State × Verdict) : Handler := fun r s =>
  match r.payload with
  | [a, b] => f (u16 a b) s
  | _ => (s, refuse .malformed 0)

end Sys2Proof.Machine
end

