-- ==== Sys2Proof/Machine/Placement.lean ====
section
/-! DEFINITION. Placing orders (02, 03): numbering (R20), the acceptance sequence (R21), the queue order (R42), the tests of
a placement (R35) and what its acceptance stores (R43), Replace (R44), and the placement of a set (R55 to R57). -/

namespace Sys2Proof.Machine

/-! ### Numbering (R20, R21, R55) -/

/-- The order number that follows a number: 1 follows 65535 (R20). -/
def nextOrderNumber (n : Nat) : Nat := if n = 65535 then 1 else n + 1

/-- The set number that follows a number: 1 follows 255 (R55). -/
def nextSetNumber (n : Nat) : Nat := if n = 255 then 1 else n + 1

/-- The first number at or after `n` that is not live (R20, R55). Each test uses one unit of fuel. -/
def freeNumber (next : Nat → Nat) (live : Nat → Bool) : Nat → Nat → Nat
  | 0, n => n
  | fuel + 1, n => if live n then freeNumber next live fuel (next n) else n

/-- The number the next order takes (R20): at most 48 orders are live, so the search passes at most 48. -/
def orderNumber (s : State) : Nat :=
  freeNumber nextOrderNumber (fun n => (s.findOrder n).isSome) Config.maxOrders s.store.nextNumber

/-- The number the next set takes (R55). -/
def setNumber (s : State) : Nat :=
  freeNumber nextSetNumber (fun k => (s.findSet k).isSome) Config.maxSets s.store.nextSet

/-- Renumber the acceptance sequences of all live orders 1, 2, 3 and so on, keeping their order (R21). -/
def renumber (s : State) : State :=
  let place (q : Nat) : Nat := (s.liveOrders.filter fun x => Nat.blt x.2.sequence q).length + 1
  let s1 := Gate.all.foldl (fun acc g =>
    acc.updQueue g (List.map fun o => { o with sequence := place o.sequence })) s
  { s1 with store := { s1.store with acceptCount := s.liveCount } }

/-- Raise the acceptance count by one, after a renumbering where it stands at its top (R21). -/
def raiseAcceptCount (s : State) : State :=
  let s1 := if s.store.acceptCount = 4294967295 then renumber s else s
  { s1 with store := { s1.store with acceptCount := s1.store.acceptCount + 1 } }

/-! ### Queue order (R42) -/

/-- Whether `a` stands ahead of `b`: of higher class, or of equal class with the smaller acceptance sequence (R42). -/
def standsAhead (a b : Order) : Bool :=
  Nat.blt (classRank b.cls) (classRank a.cls) || (a.cls == b.cls && Nat.blt a.sequence b.sequence)

/-- Put an order into a queue at the place its rank gives it (R42). -/
def insertOrder (o : Order) : List Order → List Order
  | [] => [o]
  | x :: r => if standsAhead x o then x :: insertOrder o r else o :: x :: r

/-! ### The tests of a placement (R35) -/

/-- What the tests of a placement find when all pass. -/
structure Judged where
  gate : Gate
  cls : OrderClass
  start : Start
deriving DecidableEq, Repr

/-- The numbers of the orders a Replace of a class would supersede, in queue order (R44). -/
def supersededBy (s : State) (g : Gate) (c : OrderClass) : List Nat :=
  ((s.queue g).filter fun o => Nat.ble (classRank o.cls) (classRank c)).map fun o => o.number

/-- The orders a placement would supersede: those of R44 where it carries Replace, else none. -/
def replaced (s : State) (g : Gate) (c : OrderClass) (p : Placement) : List Nat :=
  if p.replace then supersededBy s g c else []

/-- Whether a start is AT_TIME. -/
def isAtTime : Start → Bool
  | .atTime _ => true
  | _ => false

/-- The deadline tests of R29: CLOCK_UNSET, then TOO_LATE. -/
def deadlineRefusal (s : State) (d : Option Nat) : Option Status :=
  match d with
  | none => none
  | some t => if s.clock.isSet then (if t ≤ s.clock.value then some .tooLate else none) else some .clockUnset

/-- The tests of R35 after the payload test, in its order. `barred` is PLACE SET's addition to the BAD_FIELD test
(R56). -/
def judgePlacement (s : State) (barred : Gate → Bool) (p : Placement) : Except Status Judged :=
  match gateOf p.gate with
  | none => .error .badGate
  | some g =>
    if (s.gate g).st = .disabled then .error .gateDisabled
    else
      match classOf p.cls, startOf p with
      | some c, some st =>
        if barred g then .error .badField
        else if isAtTime st && !s.clock.isSet then .error .clockUnset
        else
          match deadlineRefusal s p.deadline with
          | some r => .error r
          | none =>
            if (s.queue g).length - (replaced s g c p).length < s.settings.site.quotas.get g then
              .ok { gate := g, cls := c, start := st }
            else .error .queueFull
      | _, _ => .error .badField

/-! ### Clamps (R24, R25, R26, R28) -/

/-- A target limited to 0–F of its gate (R24). -/
def clampTarget (s : State) (g : Gate) (t : Int) : Int := clampInt 0 (s.fullTravel g) t

/-- A rate limited to 50–R_g of its gate (R25). -/
def clampRate (s : State) (g : Gate) (r : Nat) : Nat := clampNat 50 (s.maxSpeed g) r

/-- A raise guard limited to −20000–20000 (R28). -/
def clampGuard (x : Int) : Int := clampInt (-20000) 20000 x

/-- Whether the start level given differs from the one stored (R26, R35). -/
def levelChanged (p : Placement) : Start → Bool
  | .level _ _ l => l != signed32 p.startParam
  | _ => false

/-- The clamp flags of a placement on its gate (R35). -/
def placementFlags (s : State) (j : Judged) (p : Placement) : ClampFlags :=
  { target := clampTarget s j.gate p.target != p.target
    rate := p.rate.any fun r => clampRate s j.gate r != r
    guard := p.guard.any fun x => clampGuard x != x
    level := levelChanged p j.start }

/-! ### Acceptance (R26, R43) -/

/-- The state of an order at acceptance (R26). -/
def stateAtAcceptance (s : State) : Start → OrderState
  | .immediate => .ready
  | .atTime t => if t ≤ s.clock.value then .ready else .queued
  | .level _ _ _ => .queued

/-- The record an acceptance stores (R35, R43). -/
def newOrder (s : State) (port : Port) (k : Option Nat) (j : Judged) (p : Placement) (n sequence : Nat) : Order :=
  { number := n, cls := j.cls, target := clampTarget s j.gate p.target, rate := p.rate.map (clampRate s j.gate),
    start := j.start, armed := false, guard := p.guard.map clampGuard, deadline := p.deadline,
    tag := p.tag.getD 0, originator := port, setNo := k, state := stateAtAcceptance s j.start, holds := .none,
    sequence := sequence }

/-- An order accepted: its number and acceptance sequence are assigned, and its record is stored and put into its gate's
queue (R43 steps 2 to 4). -/
def storeOrder (port : Port) (k : Option Nat) (j : Judged) (p : Placement) (s : State) : State :=
  let n := orderNumber s
  let s1 := raiseAcceptCount { s with store := { s.store with nextNumber := nextOrderNumber n } }
  s1.updQueue j.gate (insertOrder (newOrder s port k j p n s1.store.acceptCount))

/-- Retire several orders of a gate one after another, each whole with the tests that follow from it, and count those that
were still live (R44, R50, R51, R53). -/
def retireEach (g : Gate) (oc : Outcome) : List Nat → State → State × Nat
  | [], s => (s, 0)
  | n :: rest, s =>
    match s.orderIn g n with
    | none => retireEach g oc rest s
    | some _ =>
      let r := retireEach g oc rest (settle (retire g n oc s))
      (r.1, r.2 + 1)

/-- An accepted PLACE ORDER (R43): superseding, then the acceptance, then the store's test where the order is READY. -/
def acceptOrder (port : Port) (j : Judged) (p : Placement) (s : State) : State × Verdict :=
  let r := retireEach j.gate .superseded (replaced s j.gate j.cls p) s
  let flags := placementFlags s j p
  let st := stateAtAcceptance r.1 j.start
  let s2 := storeOrder port none j p r.1
  let s3 := if st = .ready then finish [j.gate] s2 else closeEvent s2
  (s3, .answer (doneOr flags.any)
    (w16 (orderNumber r.1) ++ w8 (orderStateCode st) ++ w8 (clampCode flags) ++ w8 r.2))

/-- PLACE ORDER (R35, R43). -/
def reqPlaceOrder : Handler := fun r s =>
  match whole takePlacement r.payload with
  | none => (s, refuse .malformed 0)
  | some p =>
    match judgePlacement s (fun _ => false) p with
    | .error e => (s, refuse e 0)
    | .ok j => acceptOrder r.port j p s

/-! ### PLACE SET (R55 to R57) -/

/-- Judge the members of a set in the order given (R56 test 4): the first that fails with its index, or all of them. -/
def judgeMembers (s : State) : Nat → List Gate → List Placement → Except (Status × Nat) (List (Judged × Placement))
  | _, _, [] => .ok []
  | i, earlier, p :: rest =>
    match judgePlacement s (fun g => p.replace || earlier.contains g) p with
    | .error e => .error (e, i)
    | .ok j =>
      match judgeMembers s (i + 1) (earlier ++ [j.gate]) rest with
      | .error e => .error e
      | .ok ms => .ok ((j, p) :: ms)

/-- What the members of a set come to as they are stored one by one (R57 step 2): the state, each member's number, and
what the response says of each. -/
structure Members where
  state : State
  numbers : List (Gate × Nat)
  record : List Byte
  clamped : Bool

/-- Store the members of a set in the order given (R57 step 2). -/
def storeMembers (port : Port) (k : Nat) : List (Judged × Placement) → Members → Members
  | [], x => x
  | (j, p) :: rest, x =>
    let n := orderNumber x.state
    let flags := placementFlags x.state j p
    storeMembers port k rest
      { state := storeOrder port (some k) j p x.state
        numbers := x.numbers ++ [(j.gate, n)]
        record := x.record ++ w16 n ++ w8 (orderStateCode (stateAtAcceptance x.state j.start)) ++ w8 (clampCode flags)
        clamped := x.clamped || flags.any }

/-- The member numbers in gate order (R55, R57 step 3). -/
def inGateOrder (ms : List (Gate × Nat)) : List Nat :=
  Gate.all.flatMap fun g => (ms.filter fun x => x.1 == g).map fun x => x.2

/-- The record of a new set (R57 steps 3 and 4). -/
def newSet (k : Nat) (joint : Bool) (x : Members) : SetRec :=
  let ns := inGateOrder x.numbers
  { number := k, members := ns, joint := joint, allReady := ns.all (isReady x.state), broken := false }

/-- An accepted PLACE SET (R57). The READY members are tested, those of a joint-start set only once its mark is seen. -/
def acceptSet (port : Port) (joint : Bool) (ms : List (Judged × Placement)) (s : State) : State × Verdict :=
  let k := setNumber s
  let s1 := { s with store := { s.store with nextSet := nextSetNumber k } }
  let x := storeMembers port k ms { state := s1, numbers := [], record := [], clamped := false }
  let r := newSet k joint x
  let s2 := x.state.updSets (fun l => l ++ [r])
  let tests := if joint && !r.allReady then [] else readyGates s2 k
  (finish tests s2, .answer (doneOr x.clamped) (w8 k ++ x.record))

/-- PLACE SET (R56, R57). -/
def reqPlaceSet : Handler := fun r s =>
  match readSetPlacement r.payload with
  | none => (s, refuse .malformed 0)
  | some sp =>
    if s.store.sets.length < Config.maxSets then
      match judgeMembers s 1 [] sp.members with
      | .error e => (s, refuse e.1 e.2)
      | .ok ms => acceptSet r.port sp.joint ms s
    else (s, refuse .tableFull 0)

end Sys2Proof.Machine
end

