-- ==== Sys2Proof/Machine/Amendment.lean ====
section
/-! DEFINITION. What the seat holder does with live orders and sets (02, 03): amendments (R36, R48, R105), withdrawal (R49,
R50), CLEAR STORE (R53), APPORTION (R41), RELEASE SET (R60), and the reads READ ORDER, LIST ORDERS and READ SET (R37, R54,
R61). -/

namespace Sys2Proof.Machine

/-! ### Amendments (R36) -/

/-- Tests 2 to 5 of R36 on one amendment whose layout is whole. -/
def amendRefusal (s : State) (a : Amendment) : Option Status :=
  if maskOk a.mask then
    match s.findOrder a.number with
    | none => some .noOrder
    | some _ => if maskForbidden a.mask then some .badField else deadlineRefusal s a.deadline
  else some .malformed

/-- The clamp flags of an amendment on its gate (R36). -/
def amendFlags (s : State) (g : Gate) (a : Amendment) : ClampFlags :=
  { target := a.target.any fun t => clampTarget s g t != t
    rate := a.rate.any fun r => clampRate s g r != r
    guard := a.guard.any fun x => clampGuard x != x
    level := false }

/-- A field given new, removed, or left as it was. -/
def changed {α : Type} (given : Option α) (removed : Bool) (was : Option α) : Option α :=
  match given with
  | some x => some x
  | none => if removed then none else was

/-- The order's record after an amendment (R36). -/
def amendedOrder (s : State) (g : Gate) (a : Amendment) (o : Order) : Order :=
  { o with
    target := (a.target.map (clampTarget s g)).getD o.target
    rate := changed (a.rate.map (clampRate s g)) (bitOf a.mask 5) o.rate
    guard := changed (a.guard.map clampGuard) (bitOf a.mask 6) o.guard
    deadline := changed a.deadline (bitOf a.mask 7) o.deadline
    tag := a.tag.getD o.tag }

/-- What an accepted amendment does to its order and, where that order is in force, to its gate (R36, R105). -/
def applyAmendment (g : Gate) (a : Amendment) (s : State) : State :=
  let s1 := s.updOrder g a.number (amendedOrder s g a)
  if (s.gate g).link = some a.number then
    let s2 := if a.target.isSome then s1.updGate g fun q => { q with settle := 0 } else s1
    if a.target.isSome || a.guard.isSome || bitOf a.mask 6 then removeHold g .head s2 else s2
  else s1

/-- AMEND ORDER (R36). -/
def reqAmendOrder : Handler := fun r s =>
  match whole takeAmendment r.payload with
  | none => (s, refuse .malformed 0)
  | some a =>
    match amendRefusal s a, s.findOrder a.number with
    | some e, _ => (s, refuse e 0)
    | none, none => (s, refuse .noOrder 0)
    | none, some (g, _) =>
      let flags := amendFlags s g a
      (closeEvent (applyAmendment g a s), .answer (doneOr flags.any) (w8 (clampCode flags)))

/-- The first item of a batch that fails, with its code and index: tests 2 to 5 of each (R48 test 3). -/
def batchRefusal (s : State) : Nat → List Amendment → Option (Status × Nat)
  | _, [] => none
  | i, a :: rest =>
    match amendRefusal s a with
    | some e => some (e, i)
    | none => batchRefusal s (i + 1) rest

/-- The first item that names the order of an earlier item, with its index (R48 test 4). -/
def repeatedItem : Nat → List Nat → List Amendment → Option Nat
  | _, _, [] => none
  | i, earlier, a :: rest => if earlier.contains a.number then some i else repeatedItem (i + 1) (a.number :: earlier) rest

/-- Apply the items of a batch, gathering their clamp flags (R48). -/
def applyBatch : List Amendment → State → State × List ClampFlags
  | [], s => (s, [])
  | a :: rest, s =>
    match s.findOrder a.number with
    | none => applyBatch rest s
    | some (g, _) =>
      let r := applyBatch rest (applyAmendment g a s)
      (r.1, amendFlags s g a :: r.2)

/-- AMEND BATCH (R48). -/
def reqAmendBatch : Handler := fun r s =>
  match readAmendments r.payload with
  | none => (s, refuse .malformed 0)
  | some items =>
    match batchRefusal s 1 items, repeatedItem 1 [] items with
    | some e, _ => (s, refuse e.1 e.2)
    | none, some i => (s, refuse .badField i)
    | none, none =>
      let x := applyBatch items s
      (closeEvent x.1, .answer (doneOr (x.2.any ClampFlags.any)) (x.2.flatMap fun f => w8 (clampCode f)))

/-! ### Withdrawal and clearing (R49, R50, R53) -/

/-- WITHDRAW ORDER (R49). -/
def reqWithdrawOrder : Handler := withNumber fun n s =>
  match s.findOrder n with
  | none => (s, refuse .noOrder 0)
  | some (g, o) =>
    let r := retire g n .withdrawn s
    (finish r.2 r.1, .answer .done (w8 (orderStateCode o.state)))

/-- Retire every live order of a gate, in queue order from the head, and count them (R50, R53). -/
def retireGate (g : Gate) (oc : Outcome) (s : State) : State × Nat :=
  retireEach g oc ((s.queue g).map fun o => o.number) s

/-- Retire every live order of several gates, gate by gate, and count them (R50, R53). -/
def retireGates (oc : Outcome) : List Gate → State → State × Nat
  | [], s => (s, 0)
  | g :: rest, s =>
    let r := retireGate g oc s
    let r' := retireGates oc rest r.1
    (r'.1, r.2 + r'.2)

/-- WITHDRAW GATE (R50). -/
def reqWithdrawGate : Handler := withGate fun g s =>
  let r := retireGate g .withdrawn s
  (closeEvent r.1, .answer .done (w8 r.2))

/-- STOP ALL (R50). -/
def reqStopAll : Handler := withoutPayload fun s =>
  let r := retireGates .withdrawn Gate.all s
  (closeEvent r.1, .answer .done (w8 r.2))

/-- CLEAR STORE (R53). -/
def reqClearStore : Handler := withoutPayload fun s =>
  let r := retireGates .cleared Gate.all s
  (closeEvent r.1, .answer .done (w8 r.2))

/-! ### APPORTION (R41) -/

/-- APPORTION (R41). -/
def reqApportion : Handler := fun r s =>
  match r.payload with
  | [a, b, c, d, e, f] =>
    let q : PerGate Nat := ⟨a.toNat, b.toNat, c.toNat, d.toNat, e.toNat, f.toNat⟩
    if s.liveCount = 0 then
      if quotasOk q then
        ({ s with settings := { s.settings with site := { s.settings.site with quotas := q } } }, .answer .done [])
      else (s, refuse .badField 0)
    else (s, refuse .notEmpty 0)
  | _ => (s, refuse .malformed 0)

/-! ### RELEASE SET (R60) -/

/-- GROUP is removed from every member in force of a set, gate by gate (R60). -/
def groupReleases (k : Nat) (s : State) : State :=
  Gate.all.foldl (fun acc g =>
    match acc.orderInForce g with
    | some o => if o.setNo = some k then removeHold g .group acc else acc
    | none => acc) s

/-- RELEASE SET (R60). -/
def reqReleaseSet : Handler := fun r s =>
  match r.payload with
  | [c] =>
    match s.findSet c.toNat with
    | none => (s, refuse .noSet 0)
    | some x =>
      if x.broken then
        let s1 := groupReleases x.number (updSet x.number (fun y => { y with broken := false }) s)
        (finish (readyGates s1 x.number) s1, .answer .done [])
      else (s, .answer .done [])
  | _ => (s, refuse .malformed 0)

/-! ### Reading the store (R37, R54, R61) -/

/-- READ ORDER (R37). -/
def reqReadOrder : Handler := withNumber fun n s =>
  match s.findOrder n with
  | none => (s, refuse .noOrder 0)
  | some (g, o) =>
    (s, .answer .done (orderRecord g o (eligible s o) (placeIn (fun x => x.number == n) (s.queue g))))

/-- Put an order into a list kept in ascending order of number (R54). -/
def insertByNumber (x : Gate × Order) : List (Gate × Order) → List (Gate × Order)
  | [] => [x]
  | y :: r => if y.2.number < x.2.number then y :: insertByNumber x r else x :: y :: r

/-- The live orders that match a LIST ORDERS filter, in ascending order of number (R54). R42 says that LIST ORDERS shows a
queue in its rank order; the two rules differ, and the model follows R54, the request's own (DESIGN CHOICE,
notes/assumptions 45). -/
def matchingOrders (s : State) (gates states classes after : Nat) : List (Gate × Order) :=
  (s.liveOrders.filter fun x =>
    bitOf gates (gateNumber x.1 - 1) && bitOf states (orderStateCode x.2.state) && bitOf classes (classRank x.2.cls) &&
      Nat.blt after x.2.number).foldr insertByNumber []

/-- LIST ORDERS (R54). -/
def reqListOrders : Handler := fun r s =>
  match r.payload with
  | [g, st, c, a1, a0] =>
    let found := matchingOrders s g.toNat st.toNat c.toNat (u16 a1 a0)
    let shown := found.take 8
    (s, .answer .done (w8 shown.length ++ wFlag (Nat.blt 8 found.length) ++
      shown.flatMap fun x => orderSummary x.1 x.2))
  | _ => (s, refuse .malformed 0)

/-- READ SET (R61). -/
def reqReadSet : Handler := fun r s =>
  match r.payload with
  | [c] =>
    match s.findSet c.toNat with
    | none => (s, refuse .noSet 0)
    | some x => (s, .answer .done (setRecord s x))
  | _ => (s, refuse .malformed 0)

end Sys2Proof.Machine
end

