-- ==== Sys2Proof/Machine/GateRequests.lean ====
section
/-! DEFINITION. The requests on gates (05, 07): READ GATE (R107), READ OUTCOME (R52), CLEAR FAULT (R134 to R136), RESET GATE
(R106), HOLD ALL and RELEASE ALL (R101). -/

namespace Sys2Proof.Machine

/-! ### Reads -/

/-- READ GATE (R107). -/
def reqReadGate : Handler := withGate fun g s => (s, .answer .done (gateRecord s g))

/-- READ OUTCOME (R52). -/
def reqReadOutcome : Handler := withGate fun g s => (s, .answer .done (outcomeRecord (s.gate g).outcome))

/-! ### CLEAR FAULT (R134 to R136) -/

/-- Whether the cause named by a gate's fault record still stands (R134 test 4). -/
def causePresent (s : State) (g : Gate) : Bool :=
  match (s.gate g).fault with
  | none => false
  | some r =>
    match r.kind with
    | .estop => s.lines.estop
    | .position => (badChannels s g).isSome
    | _ => false

/-- Whether a gate's fault record is of kind SKEW. -/
def faultIsSkew (s : State) (g : Gate) : Bool :=
  match (s.gate g).fault with
  | some r => r.kind == .skew
  | none => false

/-- Whether a cleared SKEW leads to a trim (R136). -/
def trimAllowed (s : State) (g : Gate) : Bool := (badChannels s g).isNone && !s.isolated g && !s.lines.estop

/-- A gate in FAULT is cleared: its record is emptied, and it goes to a trim wait or to IDLE (R135, R136). -/
def clearGate (g : Gate) (s : State) : State :=
  let s1 := emptyFault g s
  if faultIsSkew s g && trimAllowed s g then closeEvent (enterWaitGrant g s1)
  else
    let r := enterIdle g s1
    finish r.2 r.1

/-- CLEAR FAULT (R134). The response reports the state the gate is in at the end of the event. -/
def reqClearFault : Handler := withGate fun g s =>
  if causePresent s g then (s, refuse .causePresent 0)
  else if (s.gate g).st = .fault then
    let s1 := clearGate g s
    (s1, .answer .done (w8 (gateStateCode (s1.gate g).st)))
  else (s, .answer .done (w8 (gateStateCode (s.gate g).st)))

/-! ### RESET GATE (R106) -/

/-- Steps 1 to 3 of R106: brakes applied, timers cancelled, slot released or wait left, fault record emptied. Until its
entry at step 5 the gate is taken as at rest: it stands as DISABLED, in which a retirement moves nothing and the store
makes no test. -/
def restGate (g : Gate) (s : State) : State :=
  emptyFault g (leaveWait g (releaseSlot g (enterAtRest .disabled none g s)))

/-- Step 5 of R106 for a gate without valid geometry: it stays in DISABLED with its motion context cleared. -/
def stayDisabled (g : Gate) (s : State) : State :=
  s.updGate g fun q => { q with link := none, vPrev := 0, settle := 0, window := none }

/-- RESET GATE's effect and the count of the orders it retired (R106). -/
def resetGate (g : Gate) (s : State) : State × Nat :=
  let r := retireGate g .cleared (restGate g s)
  if geometryValid (s.geo g) then
    let x := enterIdle g r.1
    (finish x.2 x.1, r.2)
  else (closeEvent (stayDisabled g r.1), r.2)

/-- RESET GATE (R106). -/
def reqResetGate : Handler := withGate fun g s =>
  let r := resetGate g s
  (r.1, .answer .done (w8 r.2))

/-! ### HOLD ALL and RELEASE ALL (R101) -/

/-- The count of the gates that a property picks. -/
def countGates (p : Gate → Bool) : Nat := (Gate.all.filter p).length

/-- Whether a gate has an order in force without ALL. -/
def lacksAll (s : State) (g : Gate) : Bool :=
  match s.orderInForce g with
  | some o => !o.holds.all
  | none => false

/-- HOLD ALL (R101). -/
def reqHoldAll : Handler := withoutPayload fun s =>
  if s.holdAll then (s, .answer .done (w8 0))
  else
    (closeEvent (Gate.all.foldl (fun acc g => addHold g .all acc) { s with holdAll := true }),
      .answer .done (w8 (countGates (lacksAll s))))

/-- RELEASE ALL (R101). -/
def reqReleaseAll : Handler := withoutPayload fun s =>
  if s.holdAll then
    (closeEvent (Gate.all.foldl (fun acc g => removeHold g .all acc) { s with holdAll := false }),
      .answer .done (w8 (countGates fun g => carries s g .all)))
  else (s, .answer .done (w8 0))

end Sys2Proof.Machine
end

