-- ==== Sys2Proof/Machine/Isolation.lean ====
section
/-! DEFINITION. The Isolation Table (08): telling the gates (R148, R153), the four requests (R149 to R152, R158, R159), the
completion of an isolation write (R155) and the load at start-up (R157). -/

namespace Sys2Proof.Machine

/-! ### Telling the gates (R148, R153) -/

/-- A gate is told that it has become isolated: its Hoist Drive Units take the inhibit (R125), and its sequencer acts as
its state gives (R100, R137, R142, R153). -/
def tellIsolated (g : Gate) (s : State) : State :=
  let s1 := brakesOff g s
  match (s.gate g).st, (s.gate g).link with
  | .trim, _ => enterStopping g s1
  | .waitGrant, none => settle (enterIdle g (leaveWait g s1))
  | _, _ => addHold g .isolated s1

/-- A gate is told that it has ceased to be isolated (R100, R153). -/
def tellFree (g : Gate) (s : State) : State := removeHold g .isolated s

/-- Tell each gate whose standing has changed since `before`, G1 to G6 (R148). -/
def tellGates (before : State) (s : State) : State :=
  Gate.all.foldl (fun acc g =>
    if s.isolated g && !before.isolated g then tellIsolated g acc
    else if before.isolated g && !s.isolated g then tellFree g acc
    else acc) s

/-- The isolation table with `f` applied to its entries. -/
def State.updEntries (s : State) (f : List IsoEntry → List IsoEntry) : State :=
  { s with isolations := { s.isolations with entries := f s.isolations.entries } }

/-- What follows a change of the table or of STORE_DOUBT: the gates are told, the ISOLATION flag is set, and the event is
closed (R150, R152, R158). -/
def isolationChanged (before : State) (s : State) : State := closeEvent (noticeIsolation (tellGates before s))

/-! ### PLACE ISOLATION (R149 to R151) -/

/-- Whether an entry has a code and a scope (R147). -/
def isEntry (code : Nat) (sc : Scope) (e : IsoEntry) : Bool := e.code == code && e.scope == sc

/-- The entry of the table that has a code and a scope. -/
def findEntry (s : State) (code : Nat) (sc : Scope) : Option IsoEntry := s.isolations.entries.find? (isEntry code sc)

/-- The entry a placement adds (R150 step 1). -/
def newEntry (s : State) (port : Port) (code : Nat) (sc : Scope) (crew : Nat) : IsoEntry :=
  { code := code, scope := sc, crew := crew, port := port, second := s.stamp, kept := false,
    placement := s.isolations.nextPlacement }

/-- An accepted PLACE ISOLATION that is not a renewal, up to its request for a write (R150). -/
def addIsolation (port : Port) (code : Nat) (sc : Scope) (crew : Nat) (s : State) : State :=
  let s1 := s.updEntries (fun l => l ++ [newEntry s port code sc crew])
  isolationChanged s { s1 with isolations := { s1.isolations with nextPlacement := s.isolations.nextPlacement + 1 } }

/-- PLACE ISOLATION judged and accepted, with its scope's character (R149 to R151). R151 names no moment for the count that a
renewal's response carries: it is taken at the write's completion, as R181 has it for every response (DEDUCED,
notes/assumptions 47). -/
def placeIsolationOn (port : Port) (code scope crew : Nat) (s : State) : State × Verdict :=
  if code = 0 then (s, refuse .badField 0)
  else
    match scopeOf scope with
    | none => (s, refuse .badGate 0)
    | some sc =>
      match findEntry s code sc with
      | some e =>
        if e.kept then (s, refuse .duplicate 0)
        else (s, .wait (.renewal e.placement))
      | none =>
        if s.isolations.entries.length < Config.maxIsolations then
          (addIsolation port code sc crew s,
            .wait (.placement (s.isolations.entries.length + 1) s.isolations.nextPlacement))
        else (s, refuse .tableFull 0)

/-- PLACE ISOLATION (R149). -/
def reqPlaceIsolation : Handler := fun r s =>
  match r.payload with
  | [c3, c2, c1, c0, sc, m1, m0] => placeIsolationOn r.port (u32 c3 c2 c1 c0) sc.toNat (u16 m1 m0) s
  | _ => (s, refuse .malformed 0)

/-! ### REMOVE ISOLATION (R152) -/

/-- REMOVE ISOLATION judged and accepted (R152). -/
def removeIsolationOn (code scope : Nat) (s : State) : State × Verdict :=
  match scopeOf scope with
  | none => (s, refuse .badGate 0)
  | some sc =>
    match findEntry s code sc with
    | none => (s, refuse .badCode 0)
    | some _ =>
      let s1 := isolationChanged s (s.updEntries (List.filter fun e => !isEntry code sc e))
      (s1, .wait (.removal s1.isolations.entries.length))

/-- REMOVE ISOLATION (R152). -/
def reqRemoveIsolation : Handler := fun r s =>
  match r.payload with
  | [c3, c2, c1, c0, sc] => removeIsolationOn (u32 c3 c2 c1 c0) sc.toNat s
  | _ => (s, refuse .malformed 0)

/-! ### CONFIRM ISOLATIONS and LIST ISOLATIONS (R158, R159) -/

/-- CONFIRM ISOLATIONS (R158). -/
def reqConfirmIsolations : Handler := withoutPayload fun s =>
  if s.isolations.doubt then
    (isolationChanged s { s with isolations := { s.isolations with doubt := false } },
      .wait .confirmation)
  else (s, refuse .notDoubted 0)

/-- LIST ISOLATIONS (R159). -/
def reqListIsolations : Handler := fun r s =>
  match r.payload with
  | [c] =>
    if within 1 24 c.toNat then (s, .answer .done (isolationList s c.toNat)) else (s, refuse .badField 0)
  | _ => (s, refuse .malformed 0)

/-! ### The completion of an isolation write (R155) -/

/-- Whether the image holds the entry of a placement (R155: "matched by its own placement, not by its code and scope"). -/
def IsoImage.holds (im : IsoImage) (placement : Nat) : Bool := im.entries.any fun x => x.placement == placement

/-- The entries' Kept marks after a write: on KEPT the entries of the image, and on NOT_KEPT none (R155 step 1). -/
def markKept (kept : Bool) (image : IsoImage) (e : IsoEntry) : IsoEntry :=
  if kept then (if image.holds e.placement then { e with kept := true } else e) else { e with kept := false }

/-- Whether a write that has ended was of the settings area. -/
def Flight.isSettings : Flight → Bool
  | .settings _ => true
  | .isolation _ => false

/-- The Kept mark reported for a placement at the end of the write it waited on: yes after a KEPT write that held the entry;
no after a NOT_KEPT write, and no for an entry removed before the write started (R150). A renewal's mark follows the same
rule where R151 is silent: its entry removed before the response (DESIGN CHOICE, notes/assumptions 48). -/
def placementKept (write : Flight) (kept : Bool) (placement : Nat) : Bool :=
  match write with
  | .isolation im => kept && im.holds placement
  | .settings _ => false

/-- The payload of a request answered at the end of the write it waited on (R150 to R152, R158, R193, R194). The counts of a
renewal and of a confirmation are of the table as the completion leaves it (R158, R181). -/
def waitPayload (write : Flight) (kept : Bool) (s : State) : Waiting → List Byte
  | .placement n k => w8 n ++ wFlag false ++ wFlag (placementKept write kept k)
  | .renewal k => w8 s.isolations.entries.length ++ wFlag true ++ wFlag (placementKept write kept k)
  | .removal n => w8 n
  | .confirmation => w8 s.isolations.entries.length
  | .settings => []

/-- A port whose request waited on the write that has completed is answered DONE with the result (R155 step 2, R196). -/
def answerWaiting (write : Flight) (kept : Bool) (p : Port) (s : State) : State :=
  match (s.link p).request with
  | some r =>
    match r.progress with
    | .waiting true what =>
      if waitsOnSettings what = write.isSettings then
        s.updLink p fun k =>
          { k with request := some { r with progress := .ready (responseFrame s.address r.kind r.seq .done
              (if kept then .kept else .notKept) (waitPayload write kept s what)) } }
      else s
    | _ => s
  | none => s

/-- Both ports' requests that waited on the write are answered. -/
def answerAllWaiting (write : Flight) (kept : Bool) (s : State) : State :=
  answerWaiting write kept .panel (answerWaiting write kept .station s)

/-! ### The load at start-up (R157) -/

/-- Loaded entries are Kept yes, and each has a placement of its own from here on (R156, R157). -/
def loadEntries : Nat → List IsoRecord → List IsoEntry
  | _, [] => []
  | n, e :: rest => { toIsoRecord := { e with placement := n }, kept := true } :: loadEntries (n + 1) rest

/-- The table and STORE_DOUBT as taken from the isolation area (R157). -/
def loadIsolations : Option IsoImage → Isolations
  | none => { entries := [], doubt := true, nextPlacement := 0 }
  | some im => { entries := loadEntries 0 im.entries, doubt := im.doubt, nextPlacement := im.entries.length }

end Sys2Proof.Machine
end

