-- ==== Sys2Proof/Machine/StartWatch.lean ====
section
/-! DEFINITION. The Start Watch (04): what a made READY order leads to, the clock evaluation (R65 to R69) and the level
starts (R73 to R75). -/

namespace Sys2Proof.Machine

/-! ### What orders made READY lead to (R65 phase 3, R69, R74) -/

/-- The numbers of the sets with a member among the orders made READY, in set table order. -/
def setsTouched (s : State) (made : List (Gate × Order)) : List Nat :=
  (s.store.sets.filter fun r => made.any fun x => x.2.setNo == some r.number).map fun r => r.number

/-- Test several sets for their all-ready marks, gathering the gates to be tested (R58). -/
def testSets : List Nat → State → State × List Gate
  | [], s => (s, [])
  | k :: rest, s =>
    let r := testAllReady k s
    let r' := testSets rest r.1
    (r'.1, r.2 ++ r'.2)

/-- Orders have been made READY: a wake condition (R69); then the sets are tested for their marks; then each gate with an
order made READY, with an order of a newly all-ready set, or given, is tested by the store in gate order (R65, R74). -/
def followReady (made : List (Gate × Order)) (also : List Gate) (s : State) : State :=
  let s1 := if made.isEmpty then s else wake s
  let r := testSets (setsTouched s1 made) s1
  let gates := Gate.all.filter fun g => made.any (fun x => x.1 == g) || r.2.contains g || also.contains g
  storeTests gates r.1

/-- Make READY every QUEUED order that `p` picks, with an empty hold set and no armed mark. -/
def makeReady (p : Order → Bool) (s : State) : State :=
  Gate.all.foldl (fun acc g =>
    acc.updQueue g (List.map fun o => if p o then { o with state := .ready, armed := false } else o)) s

/-! ### The clock evaluation (R65) -/

/-- Whether an order's deadline is at or before `c` (R64, R65). -/
def deadlineReached (c : Nat) (o : Order) : Bool :=
  match o.deadline with
  | some d => Nat.ble d c
  | none => false

/-- The outcome of a deadline (R66, R67). -/
def deadlineOutcome : OrderState → Outcome
  | .queued => .lapsed
  | .ready => .lapsed
  | .inForce => .overdue
  | .held => .overdue

/-- What phase 1 has done so far: the state, the gates to be tested in phase 3, and the two counts of R70. -/
structure Expiry where
  state : State
  tests : List Gate
  lapsed : Nat
  overdue : Nat

/-- One order of phase 1 (R65): it retires LAPSED or OVERDUE, and the tests are left to phase 3. -/
def expireOrder (g : Gate) (n c : Nat) (x : Expiry) : Expiry :=
  match x.state.orderIn g n with
  | none => x
  | some o =>
    if deadlineReached c o then
      let oc := deadlineOutcome o.state
      let r := retire g n oc x.state
      { state := r.1, tests := x.tests ++ r.2,
        lapsed := if oc = .lapsed then x.lapsed + 1 else x.lapsed,
        overdue := if oc = .overdue then x.overdue + 1 else x.overdue }
    else x

/-- Phase 1 of one gate: its orders in queue order from the head (R65). -/
def expireGate (g : Gate) (c : Nat) (x : Expiry) : Expiry :=
  (x.state.queue g).foldl (fun acc o => expireOrder g o.number c acc) x

/-- Phase 1: every live order with a deadline at or before `c` retires, G1 to G6 (R65). -/
def expireAll (c : Nat) (s : State) : Expiry :=
  Gate.all.foldl (fun x g => expireGate g c x) { state := s, tests := [], lapsed := 0, overdue := 0 }

/-- Whether phase 2 makes an order READY: QUEUED with an AT_TIME start at or before `c` (R65, R68). -/
def timeReached (c : Nat) (o : Order) : Bool :=
  o.state == .queued &&
    match o.start with
    | .atTime t => Nat.ble t c
    | _ => false

/-- What a clock evaluation answers: the state, and the counts of the orders LAPSED, OVERDUE and made READY (R70). -/
structure Evaluation where
  state : State
  lapsed : Nat
  overdue : Nat
  ready : Nat

/-- One clock evaluation with the clock's value `c`, in its three phases (R65). The event is closed by its command. -/
def clockEvaluation (c : Nat) (s : State) : Evaluation :=
  let x := expireAll c s
  let made := x.state.liveOrders.filter fun p => timeReached c p.2
  let s2 := makeReady (timeReached c) x.state
  { state := followReady made x.tests s2, lapsed := x.lapsed, overdue := x.overdue, ready := made.length }

/-! ### Level starts (R73 to R75) -/

/-- Whether an order is a QUEUED level start on a side (R73). -/
def watches (w : Weir) (o : Order) : Bool :=
  o.state == .queued &&
    match o.start with
    | .level _ side _ => side == w
    | _ => false

/-- Whether an armed order is met at level `l` of its side (R74). -/
def levelMet (w : Weir) (l : Int) (o : Order) : Bool :=
  watches w o && o.armed &&
    match o.start with
    | .level .rise _ at_ => decide (at_ ≤ l)
    | .level .fall _ at_ => decide (l ≤ at_)
    | _ => false

/-- Whether an order not armed is armed at level `l` of its side, with hysteresis `h` (R75). -/
def levelArms (w : Weir) (l : Int) (h : Nat) (o : Order) : Bool :=
  watches w o && !o.armed &&
    match o.start with
    | .level .rise _ at_ => decide (l ≤ at_ - h)
    | .level .fall _ at_ => decide (at_ + h ≤ l)
    | _ => false

/-- Arm every order that `p` picks (R75). -/
def armOrders (p : Order → Bool) (s : State) : State :=
  Gate.all.foldl (fun acc g => acc.updQueue g (List.map fun o => if p o then { o with armed := true } else o)) s

/-- Whether a quality is GOOD or SINGLE (R73, R102). -/
def trusted : Quality → Bool
  | .good => true
  | .single => true
  | .disputed => false
  | .lost => false

/-- The Start Watch at a level update of a side (R73). -/
def levelStarts (w : Weir) (s : State) : State :=
  let sd := s.measure.sides.get w
  if trusted sd.quality then
    let made := s.liveOrders.filter fun p => levelMet w sd.agreed p.2
    let s1 := armOrders (levelArms w sd.agreed s.settings.site.hysteresis) (makeReady (levelMet w sd.agreed) s)
    if made.isEmpty then s1 else followReady made [] s1
  else s

/-- The HEAD release of one gate at a level update (R102). -/
def headRelease (g : Gate) (s : State) : State :=
  match s.orderInForce g with
  | none => s
  | some o =>
    match o.guard with
    | none => s
    | some gd => if gd + s.settings.site.hysteresis ≤ s.measure.head then removeHold g .head s else s

/-- The sequencers at a level update: the HEAD release, where both sides are GOOD or SINGLE (R10, R102). -/
def headReleases (s : State) : State :=
  if trusted s.measure.sides.up.quality && trusted s.measure.sides.down.quality then
    Gate.all.foldl (fun acc g => headRelease g acc) s
  else s

end Sys2Proof.Machine
end

