-- ==== Sys2Proof/Machine/ClockSupply.lean ====
section
/-! DEFINITION. The requests on the Measurement Unit (R18), the weir clock (R70, R72), the Supply Controller (R169, R173)
and the link units (R185, R187). -/

namespace Sys2Proof.Machine

/-- READ LEVELS (R18). -/
def reqReadLevels : Handler := withoutPayload fun s => (s, .answer .done (levelsRecord s.measure))

/-- READ HOISTS (R18). -/
def reqReadHoists : Handler := withGate fun g s =>
  (s, .answer .done (hoistRecord s g .left ++ hoistRecord s g .right))

/-- Steps 1 to 3 of R70: the clock is loaded, CLOCK_SET becomes true, and the second timer restarts. -/
def loadClock (v : Nat) (s : State) : State :=
  { s with clock := { value := v, isSet := true, second := some Config.secondTime } }

/-- SET CLOCK (R70). -/
def reqSetClock : Handler := fun r s =>
  match r.payload with
  | [c3, c2, c1, c0] =>
    let v := u32 c3 c2 c1 c0
    let e := clockEvaluation v (loadClock v s)
    (closeEvent e.state, .answer .done (w32 v ++ w8 e.lapsed ++ w8 e.overdue ++ w8 e.ready))
  | _ => (s, refuse .malformed 0)

/-- READ CLOCK (R72). -/
def reqReadClock : Handler := withoutPayload fun s =>
  (s, .answer .done (w32 s.clock.value ++ wFlag s.clock.isSet))

/-- PARK (R169). Its frame's wake has been taken, so a supply not in WAKING stands in RUN. -/
def reqPark : Handler := withoutPayload fun s =>
  if s.supply.st = .waking then (s, refuse .wakePending 0)
  else if readyToPark s then
    let r := applyLimit (enterSupply .parking false (some Config.dropOutTime) s)
    (finish r.2 r.1, .answer .done (w8 (supplyCode .parking)))
  else (s, refuse .notIdle 0)

/-- READ SUPPLY (R173). -/
def reqReadSupply : Handler := fun r s =>
  if r.payload = [] then (s, .answer .done (supplyRecord s r.found)) else (s, refuse .malformed 0)

/-- READ NOTICES: the port's own notice set is returned and emptied (R185). -/
def reqReadNotices : Handler := fun r s =>
  if r.payload = [] then
    (s.updLink r.port fun k => { k with notices := .none }, .answer .done (noticeRecord (s.link r.port).notices))
  else (s, refuse .malformed 0)

/-- IDENTIFY (R187). -/
def reqIdentify : Handler := fun r s =>
  if r.payload = [] then (s, .answer .done (identityRecord s r.port)) else (s, refuse .malformed 0)

end Sys2Proof.Machine
end

