-- ==== Sys2Proof/Machine/Measure.lean ====
section
/-! DEFINITION. The Measurement Unit (01): the channels and their windows (R1, R4), the three scalings (R5 to R7), the
agreed levels and head (R8, R9), the load watch (R11 to R13), the position detections (R14, R16) and the scan (R2, R3). -/

namespace Sys2Proof.Machine

/-! ### Channels (R1) -/

/-- The hoist of a place 1 to 12 in channel order: G1L, G1R, G2L, and so on (R1). -/
def hoistOf (n : Nat) : Option (Gate × Side) :=
  match gateOf ((n + 1) / 2) with
  | none => none
  | some g => some (g, if n % 2 = 1 then .left else .right)

/-- The gauge of a place 1 to 4, in the order of channels 25 to 28 (R1). -/
def gaugeOf : Nat → Option (Weir × GaugeName)
  | 1 => some (.up, .a)
  | 2 => some (.up, .b)
  | 3 => some (.down, .a)
  | 4 => some (.down, .b)
  | _ => none

/-- The channel of a number 1 to 28 (R1). -/
def channelOf (n : Nat) : Option Channel :=
  if n ≤ 12 then (hoistOf n).map fun x => .position x.1 x.2
  else if n ≤ 24 then (hoistOf (n - 12)).map fun x => .load x.1 x.2
  else (gaugeOf (n - 24)).map fun x => .gauge x.1 x.2

/-- A channel is valid when its code lies within its window, both ends included (R4). -/
def codeValid (w : Window) (c : Code) : Bool := within w.low w.high c.toNat

/-- The standing a conversion leaves (R4). -/
def standingOf (w : Window) (c : Code) : Standing := if codeValid w c then .valid else .invalid

/-! ### Scaling (R5 to R7) -/

/-- A hoist's position from its code (R5). -/
def scalePosition (cal : CodePair) (travel : Nat) (c : Code) : Int :=
  roundDiv (((c.toNat : Int) - cal.c0) * travel) ((cal.c1 : Int) - cal.c0)

/-- A hoist's rope load from its code, clamped to 0–2000 kN (R6). -/
def scaleLoad (cal : CodePair) (c : Code) : Nat :=
  (clampInt 0 2000 (roundDiv (2000 * ((c.toNat : Int) - cal.c0)) ((cal.c1 : Int) - cal.c0))).toNat

/-- A gauge's level from its code, clamped to −5000…15000 mm (R7). -/
def scaleLevel (cal : GaugeCal) (c : Code) : Int :=
  clampInt (-5000) 15000
    (cal.l0 + roundDiv (((c.toNat : Int) - cal.z0) * (cal.l1 - cal.l0)) ((cal.z1 : Int) - cal.z0))

/-! ### Position channels (R4, R5, R14, R16) -/

/-- Whether a position is out of bounds for a full travel (R16). -/
def beyond (travel : Nat) (p : Int) : Bool := decide (p < -250) || decide ((travel : Int) + 250 < p)

/-- What a conversion of a position channel leaves of a hoist (R4, R5, R16). A gate without valid geometry has no
position. -/
def takePosition (s : State) (g : Gate) (d : Side) (c : Code) (m : HoistMeas) : HoistMeas :=
  let st := standingOf (s.settings.site.windows.get (.position g d)) c
  let m1 := { m with posRaw := c, posStanding := st, posValid := false, outOfBounds := false }
  match geometryValid (s.geo g), (s.geo g).posCal.get d with
  | true, some cal =>
    if st = .valid then
      let p := scalePosition cal (s.fullTravel g) c
      { m1 with position := some p, posValid := true, outOfBounds := beyond (s.fullTravel g) p }
    else m1
  | _, _ => { m1 with position := none }

/-- Whether a gate is in one of the states in which an out-of-bounds conversion raises LIMIT (R16). -/
def limitWatched : GateState → Bool
  | .releasing => true
  | .travel => true
  | .reversing => true
  | .stopping => true
  | .trim => true
  | _ => false

/-- A conversion of a position channel, with POSITION (R14) and LIMIT (R16). -/
def convertPosition (g : Gate) (d : Side) (c : Code) (s : State) : State × List Gate :=
  let before := (s.hoistMeas g d).posStanding
  let s1 := s.updHoistMeas g d (takePosition s g d c)
  let m := s1.hoistMeas g d
  if m.posStanding = .invalid ∧ before ≠ .invalid then raiseFault g .position (designateSide d) s1
  else if m.outOfBounds && limitWatched (s1.gate g).st then raiseFault g .limit (designateSide d) s1
  else (s1, [])

/-! ### Load channels (R6, R11 to R13) -/

/-- What a conversion of a load channel leaves of a hoist, its counters apart (R4, R6). -/
def takeLoad (s : State) (g : Gate) (d : Side) (c : Code) (m : HoistMeas) : HoistMeas :=
  let st := standingOf (s.settings.site.windows.get (.load g d)) c
  if st = .valid then
    { m with loadRaw := c, loadStanding := st, load := scaleLoad ((s.geo g).loadPair d) c }
  else { m with loadRaw := c, loadStanding := st }

/-- A load-watch counter at a conversion: 0 while its output is off, kept at an invalid conversion, else counted up or
emptied (R11, R12). -/
def countLoad (active : Bool) (standing : Standing) (beyond : Bool) (n : Nat) : Nat :=
  if active then (if standing = .valid then (if beyond then n + 1 else 0) else n) else 0

/-- Whether a counter has increased and stands at or past the filter count (R13). -/
def countRaises (before after filter : Nat) : Bool := Nat.blt before after && Nat.ble filter after

/-- A hoist's overload counter takes a value. -/
def setOverload (g : Gate) (d : Side) (n : Nat) (s : State) : State := s.updHoistMeas g d fun x => { x with overload := n }

/-- A hoist's slack counter takes a value. -/
def setSlack (g : Gate) (d : Side) (n : Nat) (s : State) : State := s.updHoistMeas g d fun x => { x with slack := n }

/-- The overload watch of a hoist (R11, R13). -/
def watchOverload (g : Gate) (d : Side) (s : State) : State × List Gate :=
  let m := s.hoistMeas g d
  let n := countLoad ((s.gate g).hoists.get d).brake m.loadStanding (Nat.ble (s.tune g).overload m.load) m.overload
  let s1 := setOverload g d n s
  if countRaises m.overload n (s.tune g).filter then raiseFault g .overload (designateSide d) s1 else (s1, [])

/-- The slack watch of a hoist (R12, R13). -/
def watchSlack (g : Gate) (d : Side) (s : State) : State × List Gate :=
  let m := s.hoistMeas g d
  let n := countLoad ((s.gate g).hoists.get d).lowerLine m.loadStanding (Nat.ble m.load (s.tune g).slack) m.slack
  let s1 := setSlack g d n s
  if countRaises m.slack n (s.tune g).filter then raiseFault g .slack (designateSide d) s1 else (s1, [])

/-- A conversion of a load channel: scaled, then the overload watch, then the slack watch (R6, R11 to R13). -/
def convertLoad (g : Gate) (d : Side) (c : Code) (s : State) : State × List Gate :=
  watchSlack g d (settle (watchOverload g d (s.updHoistMeas g d (takeLoad s g d c))))

/-! ### Gauges (R7 to R10) -/

/-- What a conversion of a gauge channel leaves of the gauge (R4, R7). -/
def takeGauge (s : State) (w : Weir) (n : GaugeName) (c : Code) (m : GaugeMeas) : GaugeMeas :=
  let st := standingOf (s.settings.site.windows.get (.gauge w n)) c
  if st = .valid then { raw := c, standing := st, level := scaleLevel ((s.settings.site.gauges.get w).get n) c }
  else { m with raw := c, standing := st }

/-- The agreed level and quality of a side from its two gauges (R8). -/
def agree (tolerance : Nat) (x : Pair GaugeMeas) (before : SideLevel) : SideLevel :=
  match x.a.standing, x.b.standing with
  | .valid, .valid =>
    if (x.a.level - x.b.level).natAbs ≤ tolerance then ⟨meanOf x.a.level x.b.level, .good⟩
    else ⟨before.agreed, .disputed⟩
  | .valid, _ => ⟨x.a.level, .single⟩
  | _, .valid => ⟨x.b.level, .single⟩
  | _, _ => ⟨before.agreed, .lost⟩

/-- The head and its disputed standing (R9). -/
def formHead (m : Measurement) : Measurement :=
  { m with head := m.sides.up.agreed - m.sides.down.agreed,
           headDisputed := !(trusted m.sides.up.quality && trusted m.sides.down.quality) }

/-- The gauge is read, its side agreed and the head formed (R7 to R9). -/
def measureGauge (w : Weir) (n : GaugeName) (c : Code) (s : State) : State :=
  let gs := s.measure.gauges.set w ((s.measure.gauges.get w).set n (takeGauge s w n c ((s.measure.gauges.get w).get n)))
  let side := agree s.settings.site.tolerance (gs.get w) (s.measure.sides.get w)
  { s with measure := formHead { s.measure with gauges := gs, sides := s.measure.sides.set w side } }

/-- A conversion of a gauge channel, with its level update handed to the Start Watch and to the sequencers (R8 to R10). -/
def convertGauge (w : Weir) (n : GaugeName) (c : Code) (s : State) : State :=
  headReleases (levelStarts w (measureGauge w n c s))

/-! ### The scan (R1 to R3) -/

/-- One conversion, completed whole at the MU (R2, R4). -/
def convert (ch : Channel) (c : Code) (s : State) : State :=
  match ch with
  | .position g d => settle (convertPosition g d c s)
  | .load g d => settle (convertLoad g d c s)
  | .gauge w n => convertGauge w n c s

/-- The scan goes on to its next channel, or ends at its last; a full scan that is due then starts (R2, R3). -/
def advanceScan (s : State) : State :=
  match s.measure.scan with
  | none => s
  | some sc =>
    if sc.next < 28 then { s with measure := { s.measure with scan := some { sc with next := sc.next + 1 } } }
    else
      let s1 := { s with measure := { s.measure with scan := none } }
      if s.measure.fullDue then startScan s1 else s1

end Sys2Proof.Machine
end

