-- ==== Sys2Proof/Machine/SettingItems.lean ====
section
/-! DEFINITION. The items of the working copy (R190): naming one by its item number and index, the layout of its value
(R189, Setting values), reading its value, and storing a new one with its clamps (R190 to R192). -/

namespace Sys2Proof.Machine

/-! ### Naming an item (R190, R192 tests 2 and 3) -/

/-- The eighteen tuning items, 40 to 57 (R190). -/
inductive TuneItem where
  | kp
  | ks
  | deadBand
  | settleCount
  | accel
  | skewTrip
  | corrCap
  | breakaway
  | stepPeriod
  | liftTime
  | setTime
  | dwellTime
  | trimSpeed
  | overload
  | slack
  | filter
  | stallSteps
  | stallDistance
deriving DecidableEq, Repr

/-- The tuning item of an item number (R190). -/
def tuneItemOf : Nat → Option TuneItem
  | 40 => some .kp
  | 41 => some .ks
  | 42 => some .deadBand
  | 43 => some .settleCount
  | 44 => some .accel
  | 45 => some .skewTrip
  | 46 => some .corrCap
  | 47 => some .breakaway
  | 48 => some .stepPeriod
  | 49 => some .liftTime
  | 50 => some .setTime
  | 51 => some .dwellTime
  | 52 => some .trimSpeed
  | 53 => some .overload
  | 54 => some .slack
  | 55 => some .filter
  | 56 => some .stallSteps
  | 57 => some .stallDistance
  | _ => none

/-- One item of the working copy, named with its index (R190). -/
inductive Setting where
  | quotas
  | limitMains
  | limitBattery
  | economy
  | bands
  | hysteresis
  | tolerance
  | gaugeCal (w : Weir) (n : GaugeName)
  | window (c : Channel)
  | fullTravel (g : Gate)
  | posCal (g : Gate) (d : Side)
  | fullSpeed (g : Gate)
  | maxSpeed (g : Gate)
  | loadCal (g : Gate) (d : Side)
  | lock (g : Gate)
  | tuning (t : TuneItem) (g : Gate)
deriving DecidableEq, Repr

/-- An item with no index takes the index 0 alone (R192 test 3). -/
def plainItem (x : Setting) (index : Nat) : Except Status Setting := if index = 0 then .ok x else .error .badField

/-- An item with a gate index (R192 test 3). -/
def gateItem (f : Gate → Setting) (index : Nat) : Except Status Setting :=
  match gateOf index with
  | some g => .ok (f g)
  | none => .error .badGate

/-- An item with a hoist index 1 to 12 (R190, R192 test 3). -/
def hoistItem (f : Gate → Side → Setting) (index : Nat) : Except Status Setting :=
  match hoistOf index with
  | some x => .ok (f x.1 x.2)
  | none => .error .badGate

/-- An item with a channel index 1 to 28 (R190, R192 test 3). -/
def channelItem (index : Nat) : Except Status Setting :=
  match channelOf index with
  | some c => .ok (.window c)
  | none => .error .badField

/-- An item with a gauge index 1 to 4 (R190, R192 test 3). -/
def gaugeItem (index : Nat) : Except Status Setting :=
  match gaugeOf index with
  | some x => .ok (.gaugeCal x.1 x.2)
  | none => .error .badField

/-- The item of an item number and index: BAD_FIELD for a number that is not assigned, then the index test (R192 tests 2
and 3, with items 1 and 37 allowed as GET SETTING allows them). -/
def settingOf (item index : Nat) : Except Status Setting :=
  match item with
  | 1 => plainItem .quotas index
  | 2 => plainItem .limitMains index
  | 3 => plainItem .limitBattery index
  | 4 => plainItem .economy index
  | 5 => plainItem .bands index
  | 6 => plainItem .hysteresis index
  | 7 => plainItem .tolerance index
  | 8 => gaugeItem index
  | 9 => channelItem index
  | 32 => gateItem .fullTravel index
  | 33 => hoistItem .posCal index
  | 34 => gateItem .fullSpeed index
  | 35 => gateItem .maxSpeed index
  | 36 => hoistItem .loadCal index
  | 37 => gateItem .lock index
  | n =>
    match tuneItemOf n with
    | some t => gateItem (.tuning t) index
    | none => .error .badField

/-- The item a PUT SETTING names: items 1 and 37 are refused BAD_FIELD by test 2 (R192). -/
def settingToPut (item index : Nat) : Except Status Setting :=
  if item = 1 ∨ item = 37 then .error .badField else settingOf item index

/-! ### Tuning items (R190) -/

/-- The value of a tuning item. -/
def Tuning.get (t : Tuning) : TuneItem → Nat
  | .kp => t.kp
  | .ks => t.ks
  | .deadBand => t.deadBand
  | .settleCount => t.settleCount
  | .accel => t.accel
  | .skewTrip => t.skewTrip
  | .corrCap => t.corrCap
  | .breakaway => t.breakaway
  | .stepPeriod => t.stepPeriod
  | .liftTime => t.liftTime
  | .setTime => t.setTime
  | .dwellTime => t.dwellTime
  | .trimSpeed => t.trimSpeed
  | .overload => t.overload
  | .slack => t.slack
  | .filter => t.filter
  | .stallSteps => t.stallSteps
  | .stallDistance => t.stallDistance

/-- Replace the value of a tuning item. -/
def Tuning.set (t : Tuning) (i : TuneItem) (v : Nat) : Tuning :=
  match i with
  | .kp => { t with kp := v }
  | .ks => { t with ks := v }
  | .deadBand => { t with deadBand := v }
  | .settleCount => { t with settleCount := v }
  | .accel => { t with accel := v }
  | .skewTrip => { t with skewTrip := v }
  | .corrCap => { t with corrCap := v }
  | .breakaway => { t with breakaway := v }
  | .stepPeriod => { t with stepPeriod := v }
  | .liftTime => { t with liftTime := v }
  | .setTime => { t with setTime := v }
  | .dwellTime => { t with dwellTime := v }
  | .trimSpeed => { t with trimSpeed := v }
  | .overload => { t with overload := v }
  | .slack => { t with slack := v }
  | .filter => { t with filter := v }
  | .stallSteps => { t with stallSteps := v }
  | .stallDistance => { t with stallDistance := v }

/-- A value limited to the range of its tuning item (R190, R192): a step period is first taken down to a multiple of
50. -/
def clampTune : TuneItem → Nat → Nat
  | .kp, v => clampNat 1 255 v
  | .ks, v => clampNat 0 255 v
  | .deadBand, v => clampNat 5 200 v
  | .settleCount, v => clampNat 1 15 v
  | .accel, v => clampNat 10 2000 v
  | .skewTrip, v => clampNat 20 500 v
  | .corrCap, v => clampNat 0 1000 v
  | .breakaway, v => clampNat 0 300 v
  | .stepPeriod, v => clampNat 50 400 (v / 50 * 50)
  | .liftTime, v => clampNat 50 1000 v
  | .setTime, v => clampNat 50 1000 v
  | .dwellTime, v => clampNat 100 2000 v
  | .trimSpeed, v => clampNat 100 1000 v
  | .overload, v => clampNat 100 2000 v
  | .slack, v => clampNat 0 1000 v
  | .filter, v => clampNat 1 8 v
  | .stallSteps, v => clampNat 5 50 v
  | .stallDistance, v => clampNat 5 100 v

/-! ### Reading an item (R189, R192) -/

/-- An optional value with its presence character (R189). -/
def wOpt (x : Option Nat) : List Byte := wFlag x.isSome ++ w16 (x.getD 0)

/-- An optional code pair with its presence character (R189). -/
def wOptPair (x : Option CodePair) : List Byte :=
  wFlag x.isSome ++ w16 ((x.map fun c => c.c0).getD 0) ++ w16 ((x.map fun c => c.c1).getD 0)

/-- The value of an item as GET SETTING returns it (R189, R192). -/
def settingRecord (st : Settings) : Setting → List Byte
  | .quotas => Gate.all.flatMap fun g => w8 (st.site.quotas.get g)
  | .limitMains => w8 st.site.limitMains
  | .limitBattery => w8 st.site.limitBattery
  | .economy => w16 st.site.economy
  | .bands => w8 st.site.bands.length ++ st.site.bands.flatMap fun b => w16 b.threshold ++ w16 b.limit
  | .hysteresis => w16 st.site.hysteresis
  | .tolerance => w16 st.site.tolerance
  | .gaugeCal w n =>
    let c := (st.site.gauges.get w).get n
    w16 c.z0 ++ w16s c.l0 ++ w16 c.z1 ++ w16s c.l1
  | .window c => w16 (st.site.windows.get c).low ++ w16 (st.site.windows.get c).high
  | .fullTravel g => wOpt (st.gates.get g).geo.fullTravel
  | .posCal g d => wOptPair ((st.gates.get g).geo.posCal.get d)
  | .fullSpeed g => wOpt (st.gates.get g).geo.fullSpeed
  | .maxSpeed g => wOpt (st.gates.get g).geo.maxSpeed
  | .loadCal g d => wOptPair ((st.gates.get g).geo.loadCal.get d)
  | .lock g => wFlag (st.gates.get g).geo.locked
  | .tuning t g => w16 ((st.gates.get g).tune.get t)

/-! ### Reading a value put (R189, R192 test 4) -/

/-- A value as a PUT SETTING gives it, its characters taken apart. -/
inductive GivenValue where
  | number (n : Nat)
  | optional (presence : Nat) (n : Nat)
  | optionalPair (presence : Nat) (c : CodePair)
  | pair (a b : Nat)
  | gauge (c : GaugeCal)
  | bands (l : List Band)
deriving DecidableEq, Repr

/-- Take a number of head band entries, one directly after the other. -/
def takeBands : Nat → List Byte → Option (List Band × List Byte)
  | 0, l => some ([], l)
  | n + 1, a :: b :: c :: d :: r => (takeBands n r).map fun x => ({ threshold := u16 a b, limit := u16 c d } :: x.1, x.2)
  | _, _ => none

/-- A value of one character. -/
def given1 : List Byte → Option GivenValue
  | [a] => some (.number a.toNat)
  | _ => none

/-- A value of two characters. -/
def given2 : List Byte → Option GivenValue
  | [a, b] => some (.number (u16 a b))
  | _ => none

/-- A presence character and a value of two characters. -/
def givenOpt : List Byte → Option GivenValue
  | [p, a, b] => some (.optional p.toNat (u16 a b))
  | _ => none

/-- A presence character and two codes. -/
def givenOptPair : List Byte → Option GivenValue
  | [p, a, b, c, d] => some (.optionalPair p.toNat ⟨u16 a b, u16 c d⟩)
  | _ => none

/-- Two codes. -/
def givenPair : List Byte → Option GivenValue
  | [a, b, c, d] => some (.pair (u16 a b) (u16 c d))
  | _ => none

/-- A gauge calibration. -/
def givenGauge : List Byte → Option GivenValue
  | [a, b, c, d, e, f, g, h] => some (.gauge ⟨u16 a b, signed16 (u16 c d), u16 e f, signed16 (u16 g h)⟩)
  | _ => none

/-- A head band table: a count 0 to 8 and its entries (R113). -/
def givenBands : List Byte → Option GivenValue
  | n :: rest => if n.toNat ≤ 8 then (whole (takeBands n.toNat) rest).map .bands else none
  | _ => none

/-- The value of an item as put, where it has the length of its layout (R192 test 4). Items 1 and 37 are not put. -/
def givenValue : Setting → List Byte → Option GivenValue
  | .quotas, _ => none
  | .limitMains, l => given1 l
  | .limitBattery, l => given1 l
  | .economy, l => given2 l
  | .bands, l => givenBands l
  | .hysteresis, l => given2 l
  | .tolerance, l => given2 l
  | .gaugeCal _ _, l => givenGauge l
  | .window _, l => givenPair l
  | .fullTravel _, l => givenOpt l
  | .posCal _ _, l => givenOptPair l
  | .fullSpeed _, l => givenOpt l
  | .maxSpeed _, l => givenOpt l
  | .loadCal _ _, l => givenOptPair l
  | .lock _, _ => none
  | .tuning _ _, l => given2 l

/-! ### Clamps and the tests of form (R192 test 5) -/

/-- A code pair limited to 0–4095. -/
def clampPair (c : CodePair) : CodePair := ⟨clampNat 0 4095 c.c0, clampNat 0 4095 c.c1⟩

/-- A gauge calibration limited to its ranges (R190 item 8). -/
def clampGauge (c : GaugeCal) : GaugeCal :=
  ⟨clampNat 0 4095 c.z0, clampInt (-5000) 15000 c.l0, clampNat 0 4095 c.z1, clampInt (-5000) 15000 c.l1⟩

/-- A head band entry limited to its ranges (R113). -/
def clampBand (b : Band) : Band := ⟨clampNat 0 20000 b.threshold, clampNat 50 5000 b.limit⟩

/-- Put an entry into a head band table kept in ascending order of threshold (R113). -/
def insertBand (b : Band) : List Band → List Band
  | [] => [b]
  | x :: r => if b.threshold < x.threshold then b :: x :: r else x :: insertBand b r

/-- The entries of a head band table, clamped and sorted by threshold (R113). -/
def sortedBands (l : List Band) : List Band := (l.map clampBand).foldr insertBand []

/-- Test 5 of R192: presence characters of 0 or 1, spans of at least 1000 codes, and distinct thresholds after clamping.
Spans are tested on the clamped codes, which are the ones stored. -/
def valueOk : GivenValue → Bool
  | .number _ => true
  | .optional p _ => Nat.ble p 1
  | .optionalPair p c => Nat.ble p 1 && (p == 0 || spanOk (clampPair c).c0 (clampPair c).c1)
  | .pair _ _ => true
  | .gauge c => spanOk (clampGauge c).z0 (clampGauge c).z1
  | .bands l => ascending (sortedBands l)

/-! ### Storing (R191, R192) -/

/-- A gate's record with `f` applied to its geometry. -/
def Settings.updGeo (st : Settings) (g : Gate) (f : Geometry → Geometry) : Settings :=
  { st with gates := st.gates.set g { st.gates.get g with geo := f (st.gates.get g).geo } }

/-- A gate's record with `f` applied to its tuning. -/
def Settings.updTune (st : Settings) (g : Gate) (f : Tuning → Tuning) : Settings :=
  { st with gates := st.gates.set g { st.gates.get g with tune := f (st.gates.get g).tune } }

/-- The site record with `f` applied to it. -/
def Settings.updSite (st : Settings) (f : SiteSettings → SiteSettings) : Settings := { st with site := f st.site }

/-- Fh put on a gate: it lowers a given R_g that stands above it (R191). -/
def putFullSpeed (fh : Nat) (geo : Geometry) : Geometry :=
  { geo with fullSpeed := some fh, maxSpeed := geo.maxSpeed.map fun r => min r fh }

/-- The upper end of R_g: Fh where it is given, and never above 5000 (R190 item 35, R191). -/
def maxSpeedTop (geo : Geometry) : Nat := min 5000 (geo.fullSpeed.getD 5000)

/-- The working copy with a value stored, and whether a stored value differs from the value given (R190 to R192). A value
of another layout than its item's changes nothing; `givenValue` gives none such. -/
def storeSetting (st : Settings) (x : Setting) (v : GivenValue) : Settings × Bool :=
  match x, v with
  | .limitMains, .number n =>
    (st.updSite fun t => { t with limitMains := clampNat 1 6 n }, clampNat 1 6 n != n)
  | .limitBattery, .number n =>
    (st.updSite fun t => { t with limitBattery := clampNat 1 6 n }, clampNat 1 6 n != n)
  | .economy, .number n => (st.updSite fun t => { t with economy := clampNat 100 5000 n }, clampNat 100 5000 n != n)
  | .hysteresis, .number n => (st.updSite fun t => { t with hysteresis := clampNat 10 500 n }, clampNat 10 500 n != n)
  | .tolerance, .number n => (st.updSite fun t => { t with tolerance := clampNat 20 500 n }, clampNat 20 500 n != n)
  | .bands, .bands l => (st.updSite fun t => { t with bands := sortedBands l }, l.any fun b => clampBand b != b)
  | .gaugeCal w n, .gauge c =>
    (st.updSite fun t => { t with gauges := t.gauges.set w ((t.gauges.get w).set n (clampGauge c)) }, clampGauge c != c)
  | .window c, .pair a b =>
    (st.updSite fun t => { t with windows := t.windows.set c ⟨clampNat 0 4095 a, clampNat 0 4095 b⟩ },
      clampNat 0 4095 a != a || clampNat 0 4095 b != b)
  | .fullTravel g, .optional p n =>
    if p = 0 then (st.updGeo g fun geo => { geo with fullTravel := none }, false)
    else (st.updGeo g fun geo => { geo with fullTravel := some (clampNat 1000 15000 n) }, clampNat 1000 15000 n != n)
  | .posCal g d, .optionalPair p c =>
    if p = 0 then (st.updGeo g fun geo => { geo with posCal := geo.posCal.set d none }, false)
    else (st.updGeo g fun geo => { geo with posCal := geo.posCal.set d (some (clampPair c)) }, clampPair c != c)
  | .fullSpeed g, .optional p n =>
    if p = 0 then (st.updGeo g fun geo => { geo with fullSpeed := none }, false)
    else
      (st.updGeo g (putFullSpeed (clampNat 200 5000 n)),
        clampNat 200 5000 n != n || (st.gates.get g).geo.maxSpeed.any fun r => Nat.blt (clampNat 200 5000 n) r)
  | .maxSpeed g, .optional p n =>
    if p = 0 then (st.updGeo g fun geo => { geo with maxSpeed := none }, false)
    else
      let top := maxSpeedTop (st.gates.get g).geo
      (st.updGeo g fun geo => { geo with maxSpeed := some (clampNat 100 top n) }, clampNat 100 top n != n)
  | .loadCal g d, .optionalPair p c =>
    if p = 0 then (st.updGeo g fun geo => { geo with loadCal := geo.loadCal.set d none }, false)
    else (st.updGeo g fun geo => { geo with loadCal := geo.loadCal.set d (some (clampPair c)) }, clampPair c != c)
  | .tuning t g, .number n => (st.updTune g fun u => u.set t (clampTune t n), clampTune t n != n)
  | _, _ => (st, false)

end Sys2Proof.Machine
end

