-- ==== Sys2Proof/Machine/SettingRequests.lean ====
section
/-! DEFINITION. The requests on the settings (11): PUT SETTING with what a new value acts on at once (R83, R126, R161, R191,
R192), GET SETTING (R192), KEEP SETTINGS (R194), LOCK GEOMETRY and UNLOCK GEOMETRY (R193). -/

namespace Sys2Proof.Machine

/-! ### What a new value acts on at once -/

/-- The gate of a geometry item other than the lock (R192 tests 6 and 7). -/
def geometryGate : Setting → Option Gate
  | .fullTravel g => some g
  | .posCal g _ => some g
  | .fullSpeed g => some g
  | .maxSpeed g => some g
  | .loadCal g _ => some g
  | _ => none

/-- Tests 6 and 7 of R192 for a geometry item: LOCKED, then BUSY. -/
def geometryRefusal (s : State) (g : Gate) : Option Status :=
  if (s.geo g).locked then some .locked
  else
    match (s.gate g).st, s.queue g with
    | .idle, [] => none
    | .fault, [] => none
    | .disabled, [] => none
    | _, _ => some .busy

/-- A gate is taken out of service: it enters DISABLED with its lines off and its fault record emptied (R83). -/
def disableGate (g : Gate) (s : State) : State := emptyFault g (enterAtRest .disabled none g s)

/-- A geometry item has been put: a DISABLED gate whose geometry is now valid enters IDLE, an IDLE or FAULT gate whose
geometry is not valid enters DISABLED, and any other keeps its state (R83, R191). -/
def geometryPut (g : Gate) (s : State) : State :=
  match (s.gate g).st, geometryValid (s.geo g) with
  | .disabled, true =>
    let r := enterIdle g s
    finish r.2 r.1
  | .idle, false => disableGate g s
  | .fault, false => disableGate g s
  | _, _ => s

/-- A duty raised to a new Dmin where it lies between 1 and Dmin − 1 (R126). -/
def raiseDuty (floor : Nat) (h : Hoist) : Hoist := if 1 ≤ h.duty ∧ h.duty < floor then { h with duty := floor } else h

/-- Dmin has been put: the duties of the gate's hoists follow it (R126). -/
def breakawayPut (g : Gate) (s : State) : State :=
  s.updGate g fun q =>
    { q with hoists := ⟨raiseDuty (s.tune g).breakaway q.hoists.left, raiseDuty (s.tune g).breakaway q.hoists.right⟩ }

/-- What a stored item acts on in the event of its acceptance; every other item acts where its owning rule reads it
(R192). -/
def settingPut (x : Setting) (s : State) : State :=
  match x with
  | .limitMains =>
    let r := applyLimit s
    finish r.2 r.1
  | .limitBattery =>
    let r := applyLimit s
    finish r.2 r.1
  | .fullTravel g => geometryPut g s
  | .posCal g _ => geometryPut g s
  | .fullSpeed g => geometryPut g s
  | .maxSpeed g => geometryPut g s
  | .loadCal g _ => geometryPut g s
  | .tuning .breakaway g => breakawayPut g s
  | _ => s

/-! ### PUT SETTING and GET SETTING (R192) -/

/-- An accepted PUT SETTING (R192). -/
def acceptSetting (x : Setting) (v : GivenValue) (s : State) : State × Verdict :=
  let r := storeSetting s.settings x v
  (settingPut x { s with settings := r.1 }, .answer (doneOr r.2) (wFlag r.2))

/-- Tests 4 to 7 of R192 on a named item. -/
def putItem (x : Setting) (value : List Byte) (s : State) : State × Verdict :=
  match givenValue x value with
  | none => (s, refuse .malformed 0)
  | some v =>
    if valueOk v then
      match geometryGate x with
      | none => acceptSetting x v s
      | some g =>
        match geometryRefusal s g with
        | some e => (s, refuse e 0)
        | none => acceptSetting x v s
    else (s, refuse .badField 0)

/-- PUT SETTING (R192). Its payload need only hold the item and the index for test 3 of R180 (R189). -/
def reqPutSetting : Handler := fun r s =>
  match r.payload with
  | item :: index :: value =>
    match settingToPut item.toNat index.toNat with
    | .error e => (s, refuse e 0)
    | .ok x => putItem x value s
  | _ => (s, refuse .malformed 0)

/-- GET SETTING (R192). -/
def reqGetSetting : Handler := fun r s =>
  match r.payload with
  | [item, index] =>
    match settingOf item.toNat index.toNat with
    | .error e => (s, refuse e 0)
    | .ok x => (s, .answer .done (settingRecord s.settings x))
  | _ => (s, refuse .malformed 0)

/-! ### Keeping the settings and the geometry lock (R193, R194) -/

/-- Whether a settings job is pending or in flight (R193, R194). -/
def settingsBusy (s : State) : Bool := s.nvs.settingsJob || settingsInFlight s

/-- KEEP SETTINGS (R194). -/
def reqKeepSettings : Handler := withoutPayload fun s =>
  if settingsBusy s then (s, refuse .busy 0) else (s, .wait .settings)

/-- Set or clear a gate's geometry lock in the working copy (R193). -/
def setLock (g : Gate) (v : Bool) (s : State) : State :=
  { s with settings := s.settings.updGeo g fun geo => { geo with locked := v } }

/-- LOCK GEOMETRY and UNLOCK GEOMETRY after their link tests (R193). -/
def lockRequest (v : Bool) : Handler := withGate fun g s =>
  if settingsBusy s then (s, refuse .busy 0) else (setLock g v s, .wait .settings)

/-- LOCK GEOMETRY (R193). -/
def reqLockGeometry : Handler := lockRequest true

/-- UNLOCK GEOMETRY (R193). -/
def reqUnlockGeometry : Handler := lockRequest false

end Sys2Proof.Machine
end

