-- ==== Sys2Proof/Machine/Requests.lean ====
section
/-! DEFINITION. The meanings of the 36 request commands, one definition for each, and `serveKind`, which gives a request
that arrives in a received frame to the same handlers (R179, R180, R189). Each meaning is the arrival of a whole, good
frame with the request, taken in one event (notes/assumptions 1). -/

namespace Sys2Proof.Machine

/-- The handler of each kind (R189, Request kinds). -/
def serveKind : Kind → Handler
  | .placeOrder => reqPlaceOrder
  | .placeSet => reqPlaceSet
  | .amendOrder => reqAmendOrder
  | .amendBatch => reqAmendBatch
  | .withdrawOrder => reqWithdrawOrder
  | .withdrawGate => reqWithdrawGate
  | .releaseSet => reqReleaseSet
  | .readOrder => reqReadOrder
  | .listOrders => reqListOrders
  | .readSet => reqReadSet
  | .readGate => reqReadGate
  | .readOutcome => reqReadOutcome
  | .clearFault => reqClearFault
  | .resetGate => reqResetGate
  | .holdAll => reqHoldAll
  | .releaseAll => reqReleaseAll
  | .stopAll => reqStopAll
  | .placeIsolation => reqPlaceIsolation
  | .removeIsolation => reqRemoveIsolation
  | .listIsolations => reqListIsolations
  | .confirmIsolations => reqConfirmIsolations
  | .readLevels => reqReadLevels
  | .readHoists => reqReadHoists
  | .setClock => reqSetClock
  | .readClock => reqReadClock
  | .park => reqPark
  | .readSupply => reqReadSupply
  | .apportion => reqApportion
  | .clearStore => reqClearStore
  | .putSetting => reqPutSetting
  | .getSetting => reqGetSetting
  | .keepSettings => reqKeepSettings
  | .lockGeometry => reqLockGeometry
  | .unlockGeometry => reqUnlockGeometry
  | .readNotices => reqReadNotices
  | .identify => reqIdentify

/-- PLACE ORDER (R35, R43). -/
def execPlaceOrder (p : Port) (seq : Byte) (payload : List Byte) (s : State) : Host.Outcome State Fault Refusal :=
  .next (requestArrives p .placeOrder seq payload reqPlaceOrder s)

/-- PLACE SET (R56, R57). -/
def execPlaceSet (p : Port) (seq : Byte) (payload : List Byte) (s : State) : Host.Outcome State Fault Refusal :=
  .next (requestArrives p .placeSet seq payload reqPlaceSet s)

/-- AMEND ORDER (R36). -/
def execAmendOrder (p : Port) (seq : Byte) (payload : List Byte) (s : State) : Host.Outcome State Fault Refusal :=
  .next (requestArrives p .amendOrder seq payload reqAmendOrder s)

/-- AMEND BATCH (R48). -/
def execAmendBatch (p : Port) (seq : Byte) (payload : List Byte) (s : State) : Host.Outcome State Fault Refusal :=
  .next (requestArrives p .amendBatch seq payload reqAmendBatch s)

/-- WITHDRAW ORDER (R49). -/
def execWithdrawOrder (p : Port) (seq : Byte) (payload : List Byte) (s : State) : Host.Outcome State Fault Refusal :=
  .next (requestArrives p .withdrawOrder seq payload reqWithdrawOrder s)

/-- WITHDRAW GATE (R50). -/
def execWithdrawGate (p : Port) (seq : Byte) (payload : List Byte) (s : State) : Host.Outcome State Fault Refusal :=
  .next (requestArrives p .withdrawGate seq payload reqWithdrawGate s)

/-- STOP ALL (R50). -/
def execStopAll (p : Port) (seq : Byte) (payload : List Byte) (s : State) : Host.Outcome State Fault Refusal :=
  .next (requestArrives p .stopAll seq payload reqStopAll s)

/-- RELEASE SET (R60). -/
def execReleaseSet (p : Port) (seq : Byte) (payload : List Byte) (s : State) : Host.Outcome State Fault Refusal :=
  .next (requestArrives p .releaseSet seq payload reqReleaseSet s)

/-- READ ORDER (R37). -/
def execReadOrder (p : Port) (seq : Byte) (payload : List Byte) (s : State) : Host.Outcome State Fault Refusal :=
  .next (requestArrives p .readOrder seq payload reqReadOrder s)

/-- LIST ORDERS (R54). -/
def execListOrders (p : Port) (seq : Byte) (payload : List Byte) (s : State) : Host.Outcome State Fault Refusal :=
  .next (requestArrives p .listOrders seq payload reqListOrders s)

/-- READ SET (R61). -/
def execReadSet (p : Port) (seq : Byte) (payload : List Byte) (s : State) : Host.Outcome State Fault Refusal :=
  .next (requestArrives p .readSet seq payload reqReadSet s)

/-- READ GATE (R107). -/
def execReadGate (p : Port) (seq : Byte) (payload : List Byte) (s : State) : Host.Outcome State Fault Refusal :=
  .next (requestArrives p .readGate seq payload reqReadGate s)

/-- READ OUTCOME (R52). -/
def execReadOutcome (p : Port) (seq : Byte) (payload : List Byte) (s : State) : Host.Outcome State Fault Refusal :=
  .next (requestArrives p .readOutcome seq payload reqReadOutcome s)

/-- CLEAR FAULT (R134 to R136). -/
def execClearFault (p : Port) (seq : Byte) (payload : List Byte) (s : State) : Host.Outcome State Fault Refusal :=
  .next (requestArrives p .clearFault seq payload reqClearFault s)

/-- RESET GATE (R106). -/
def execResetGate (p : Port) (seq : Byte) (payload : List Byte) (s : State) : Host.Outcome State Fault Refusal :=
  .next (requestArrives p .resetGate seq payload reqResetGate s)

/-- HOLD ALL (R101). -/
def execHoldAll (p : Port) (seq : Byte) (payload : List Byte) (s : State) : Host.Outcome State Fault Refusal :=
  .next (requestArrives p .holdAll seq payload reqHoldAll s)

/-- RELEASE ALL (R101). -/
def execReleaseAll (p : Port) (seq : Byte) (payload : List Byte) (s : State) : Host.Outcome State Fault Refusal :=
  .next (requestArrives p .releaseAll seq payload reqReleaseAll s)

/-- PLACE ISOLATION (R149 to R151). -/
def execPlaceIsolation (p : Port) (seq : Byte) (payload : List Byte) (s : State) : Host.Outcome State Fault Refusal :=
  .next (requestArrives p .placeIsolation seq payload reqPlaceIsolation s)

/-- REMOVE ISOLATION (R152). -/
def execRemoveIsolation (p : Port) (seq : Byte) (payload : List Byte) (s : State) : Host.Outcome State Fault Refusal :=
  .next (requestArrives p .removeIsolation seq payload reqRemoveIsolation s)

/-- LIST ISOLATIONS (R159). -/
def execListIsolations (p : Port) (seq : Byte) (payload : List Byte) (s : State) : Host.Outcome State Fault Refusal :=
  .next (requestArrives p .listIsolations seq payload reqListIsolations s)

/-- CONFIRM ISOLATIONS (R158). -/
def execConfirmIsolations (p : Port) (seq : Byte) (payload : List Byte) (s : State) : Host.Outcome State Fault Refusal :=
  .next (requestArrives p .confirmIsolations seq payload reqConfirmIsolations s)

/-- READ LEVELS (R18). -/
def execReadLevels (p : Port) (seq : Byte) (payload : List Byte) (s : State) : Host.Outcome State Fault Refusal :=
  .next (requestArrives p .readLevels seq payload reqReadLevels s)

/-- READ HOISTS (R18). -/
def execReadHoists (p : Port) (seq : Byte) (payload : List Byte) (s : State) : Host.Outcome State Fault Refusal :=
  .next (requestArrives p .readHoists seq payload reqReadHoists s)

/-- SET CLOCK (R70). -/
def execSetClock (p : Port) (seq : Byte) (payload : List Byte) (s : State) : Host.Outcome State Fault Refusal :=
  .next (requestArrives p .setClock seq payload reqSetClock s)

/-- READ CLOCK (R72). -/
def execReadClock (p : Port) (seq : Byte) (payload : List Byte) (s : State) : Host.Outcome State Fault Refusal :=
  .next (requestArrives p .readClock seq payload reqReadClock s)

/-- PARK (R169). -/
def execPark (p : Port) (seq : Byte) (payload : List Byte) (s : State) : Host.Outcome State Fault Refusal :=
  .next (requestArrives p .park seq payload reqPark s)

/-- READ SUPPLY (R173). -/
def execReadSupply (p : Port) (seq : Byte) (payload : List Byte) (s : State) : Host.Outcome State Fault Refusal :=
  .next (requestArrives p .readSupply seq payload reqReadSupply s)

/-- APPORTION (R41). -/
def execApportion (p : Port) (seq : Byte) (payload : List Byte) (s : State) : Host.Outcome State Fault Refusal :=
  .next (requestArrives p .apportion seq payload reqApportion s)

/-- CLEAR STORE (R53). -/
def execClearStore (p : Port) (seq : Byte) (payload : List Byte) (s : State) : Host.Outcome State Fault Refusal :=
  .next (requestArrives p .clearStore seq payload reqClearStore s)

/-- PUT SETTING (R192). -/
def execPutSetting (p : Port) (seq : Byte) (payload : List Byte) (s : State) : Host.Outcome State Fault Refusal :=
  .next (requestArrives p .putSetting seq payload reqPutSetting s)

/-- GET SETTING (R192). -/
def execGetSetting (p : Port) (seq : Byte) (payload : List Byte) (s : State) : Host.Outcome State Fault Refusal :=
  .next (requestArrives p .getSetting seq payload reqGetSetting s)

/-- KEEP SETTINGS (R194). -/
def execKeepSettings (p : Port) (seq : Byte) (payload : List Byte) (s : State) : Host.Outcome State Fault Refusal :=
  .next (requestArrives p .keepSettings seq payload reqKeepSettings s)

/-- LOCK GEOMETRY (R193). -/
def execLockGeometry (p : Port) (seq : Byte) (payload : List Byte) (s : State) : Host.Outcome State Fault Refusal :=
  .next (requestArrives p .lockGeometry seq payload reqLockGeometry s)

/-- UNLOCK GEOMETRY (R193). -/
def execUnlockGeometry (p : Port) (seq : Byte) (payload : List Byte) (s : State) : Host.Outcome State Fault Refusal :=
  .next (requestArrives p .unlockGeometry seq payload reqUnlockGeometry s)

/-- READ NOTICES (R185). -/
def execReadNotices (p : Port) (seq : Byte) (payload : List Byte) (s : State) : Host.Outcome State Fault Refusal :=
  .next (requestArrives p .readNotices seq payload reqReadNotices s)

/-- IDENTIFY (R187). -/
def execIdentify (p : Port) (seq : Byte) (payload : List Byte) (s : State) : Host.Outcome State Fault Refusal :=
  .next (requestArrives p .identify seq payload reqIdentify s)

end Sys2Proof.Machine
end

