-- ==== Sys2Proof/Machine/LinkEvents.lean ====
section
/-! DEFINITION. The events of the link units (10): the reception of characters (R177), the judging of a complete frame
(R178), framing errors and gap timer expiries (R177), and the start and end of a response (R179, R181). -/

namespace Sys2Proof.Machine

/-! ### Reception (R177) -/

/-- A link unit back in HUNT with its gap timer cancelled (R177). What it has buffered stays until the next lead. -/
def Link.toHunt (k : Link) : Link := { k with rx := .hunt, gap := none }

/-- A link unit that stores a character and restarts its gap timer (R177). -/
def Link.take (k : Link) (rx : RxState) (c : Byte) : Link :=
  { k with rx := rx, buffer := k.buffer ++ [c], gap := some Config.gapTime }

/-- The length character of a frame being received. -/
def frameLength (k : Link) : Nat :=
  match k.buffer with
  | _ :: n :: _ => n.toNat
  | _ => 0

/-- Whether a link unit is in CHECK with the CRC's high byte stored, so that the next character completes the frame
(R177). -/
def awaitsLast (k : Link) : Bool := k.rx == .check && Nat.ble (frameLength k + 3) k.buffer.length

/-- A character that does not complete a frame (R177). -/
def Link.character (k : Link) (c : Byte) : Link :=
  match k.rx with
  | .hunt => if c = Config.lead then { k with rx := .header, buffer := [], gap := some Config.gapTime } else k
  | .header =>
    if k.buffer = [] then k.take .header c
    else if within 1 Config.maxLength c.toNat then k.take .body c
    else k.toHunt
  | .body => k.take (if k.buffer.length + 1 < frameLength k + 2 then .body else .check) c
  | .check => k.take .check c

/-! ### A complete frame (R178) -/

/-- A frame that has passed the CRC test is judged by its address, its length and its kind (R178 tests 2 to 4), and one
addressed to the device is a wake condition whether it is then served or discarded (R171). -/
def judgeFrame (p : Port) (address : Byte) (body : List Byte) (s : State) : State :=
  if s.address ≠ 0 ∧ address.toNat = s.address then
    match body with
    | kind :: seq :: payload =>
      if kind.msb then wake s
      else arrive p kind seq payload ((kindOf kind).map fun k => (seatNeed k, serveKind k)) s
    | _ => wake s
  else s

/-- A frame is complete: the state becomes HUNT, and the frame is judged (R177, R178). -/
def completeFrame (p : Port) (c : Byte) (s : State) : State :=
  let k := s.link p
  let s1 := s.updLink p Link.toHunt
  match k.buffer with
  | address :: n :: rest =>
    let body := rest.take n.toNat
    match rest.drop n.toNat with
    | [high] =>
      if (crcOf (address :: n :: body)).toNat = u16 high c then judgeFrame p address body s1 else s1
    | _ => s1
  | _ => s1

/-- A character arrives at a link unit (R177, R178). A port that receives nothing takes none (R181, R188). -/
def characterArrives (p : Port) (c : Byte) (s : State) : State :=
  if receives s p then
    if awaitsLast (s.link p) then completeFrame p c s else s.updLink p fun k => k.character c
  else s

/-- FRAME_COMPLETE: the character that completes a frame, the CRC's low byte, arrives (R177, R178). Where no frame awaits
its last character the event cannot arise, and nothing changes. -/
def execFrameComplete (p : Port) (c : Byte) (s : State) : Host.Outcome State Fault Refusal :=
  .next (if receives s p && awaitsLast (s.link p) then completeFrame p c s else s)

/-- CHARACTER_ARRIVAL (R177). -/
def execCharacterArrival (p : Port) (c : Byte) (s : State) : Host.Outcome State Fault Refusal :=
  .next (characterArrives p c s)

/-- FRAMING_ERROR: the frame being received is discarded (R176, R177). -/
def execFramingError (p : Port) (s : State) : Host.Outcome State Fault Refusal :=
  .next (if receives s p then s.updLink p Link.toHunt else s)

/-- GAP_TIMER_EXPIRY: the frame being received is discarded (R177). A timer that does not run does not expire. -/
def execGapTimerExpiry (p : Port) (s : State) : Host.Outcome State Fault Refusal :=
  .next (if (s.link p).gap.isSome then s.updLink p Link.toHunt else s)

/-! ### Responses (R179, R181) -/

/-- The response begins to be sent. On the station port the line driver is enabled with it, and reception stands in HUNT
(R181). -/
def Link.start (station : Bool) (k : Link) : Link :=
  match k.request with
  | some r =>
    match r.progress with
    | .ready frame =>
      let k1 := { k with request := some { r with progress := .sending frame }, delay := none }
      if station then k1.toHunt else k1
    | _ => k
  | none => k

/-- RESPONSE_START (R181). A port with no response formed starts none. -/
def execResponseStart (p : Port) (s : State) : Host.Outcome State Fault Refusal :=
  .next (s.updLink p (Link.start (p == .station)))

/-- The last character of the response has been sent: the port holds no request (R179). -/
def Link.finished (k : Link) : Link :=
  match k.request with
  | some r =>
    match r.progress with
    | .sending _ => { k with request := none }
    | _ => k
  | none => k

/-- RESPONSE_SENT (R179). A port that is not sending ends nothing. -/
def execResponseSent (p : Port) (s : State) : Host.Outcome State Fault Refusal :=
  .next (s.updLink p Link.finished)

end Sys2Proof.Machine
end

