-- ==== Sys2Proof/Machine/LineEvents.lean ====
section
/-! DEFINITION. The edges of the plain lines (07, 09, 10): LOCAL and the seat (R182, R103), ESTOP (R143, R144) and MAINS_OK
(R168, R171). A command that names the level a line already has is no edge, and changes nothing. -/

namespace Sys2Proof.Machine

/-! ### LOCAL (R182) -/

/-- The port that holds the seat for a level of LOCAL (R182). -/
def seatOf (localKey : Bool) : Port := if localKey then .panel else .station

/-- A gate's sequencer at a change of seat: SEAT is added to an order whose originator has lost the seat, and removed from
one whose originator has gained it (R103). -/
def seatHold (g : Gate) (s : State) : State :=
  match s.orderInForce g with
  | none => s
  | some o => if o.originator = s.seat then removeHold g .seat s else addHold g .seat s

/-- The seat has passed: the six sequencers act, then the store tests every gate (R182). -/
def seatChanged (s : State) : State :=
  finish Gate.all (Gate.all.foldl (fun acc g => seatHold g acc) s)

/-- LOCAL_CHANGE (R182). The change is a wake condition (R171). -/
def execLocalChange (asserted : Bool) (s : State) : Host.Outcome State Fault Refusal :=
  .next (if s.lines.localKey = asserted then s
    else seatChanged (wake { s with lines := { s.lines with localKey := asserted }, seat := seatOf asserted }))

/-! ### ESTOP (R143, R144) -/

/-- A gate takes an ESTOP fault in an event of its own (R143). -/
def estopGate (g : Gate) (s : State) : State :=
  let r := raiseFault g .estop .both s
  finish r.2 r.1

/-- The assertion at the Hoist Drive Units, and then at the sequencers (R125, R143). -/
def estopTaken (s : State) : State :=
  Gate.all.foldl (fun acc g => estopGate g acc) (Gate.all.foldl (fun acc g => brakesOff g acc) s)

/-- ESTOP_ASSERT (R143). -/
def execEstopAssert (s : State) : Host.Outcome State Fault Refusal :=
  .next (if s.lines.estop then s else estopTaken { s with lines := { s.lines with estop := true } })

/-- ESTOP_RELEASE: the inhibit ends, and nothing else changes (R144). -/
def execEstopRelease (s : State) : Host.Outcome State Fault Refusal :=
  .next { s with lines := { s.lines with estop := false } }

/-! ### MAINS_OK (R168) -/

/-- The source that a level of MAINS_OK gives (R168). -/
def sourceOf (mainsOk : Bool) : Source := if mainsOk then .mains else .battery

/-- The source has changed with its line (R168), with the limit it gives (R161) and the wake it is (R171). -/
def mainsChanged (asserted : Bool) (s : State) : State :=
  let s1 := noticeSupply { s with lines := { s.lines with mainsOk := asserted },
                                  supply := { s.supply with source := sourceOf asserted } }
  let r := applyLimit s1
  wake (finish r.2 r.1)

/-- MAINS_OK_CHANGE (R168). -/
def execMainsOkChange (asserted : Bool) (s : State) : Host.Outcome State Fault Refusal :=
  .next (if s.lines.mainsOk = asserted then s else mainsChanged asserted s)

end Sys2Proof.Machine
end

