-- ==== Sys2Proof/Machine/StartUp.lean ====
section
/-! DEFINITION. A device reset and its start-up (R197), run whole in one command: the reset tables, then the seven steps of
R197. What the world brings (the causes, the straps, the codes of the first scan, how each area is found) is the command's
operand (notes/assumptions 3). -/

namespace Sys2Proof.Machine

/-- The cause a reset records: POWER where it begins under more than one (R174). Nothing where it begins under none. -/
def causeOf (c : ResetCauses) : Option ResetCause :=
  match c.power, c.brownout, c.pin with
  | false, false, false => none
  | false, true, false => some .brownout
  | false, false, true => some .pin
  | _, _, _ => some .power

/-- An area as start-up finds it (R160, R196): `flight` is the image of the write of it that the reset cut short. -/
def areaFound {α : Type} (f : AreaFound) (stored flight : Option α) : Option α :=
  match f with
  | .asStored => stored
  | .asWritten =>
    match flight with
    | some x => some x
    | none => stored
  | .damaged => none

/-- The image of a settings write in flight. -/
def settingsFlight (n : Nvs) : Option Settings :=
  match n.flight with
  | some (.settings st) => some st
  | _ => none

/-- The image of an isolation write in flight. -/
def isolationFlight (n : Nvs) : Option IsoImage :=
  match n.flight with
  | some (.isolation im) => some im
  | _ => none

/-- The reset tables, with what outlives a reset: the lines, the seat and source that follow them, the two areas, and the
commands that wait (R38, R62, R80, R108, R126, R146, R160, R175, R188). -/
def resetTables (w : ResetWorld) (s : State) : State :=
  { State.reset with
    lines := s.lines
    seat := seatOf s.lines.localKey
    supply := { State.reset.supply with source := sourceOf s.lines.mainsOk }
    nvs := { State.reset.nvs with
      settingsArea := areaFound w.settingsArea s.nvs.settingsArea (settingsFlight s.nvs)
      isolationArea := areaFound w.isolationArea s.nvs.isolationArea (isolationFlight s.nvs) }
    freeCount := s.freeCount
    pending := s.pending }

/-- Step 1: the straps are sampled and the cause recorded (R174, R176). -/
def sampleStraps (w : ResetWorld) (cause : ResetCause) (s : State) : State :=
  { s with address := w.straps.address.toNat, baud := w.straps.baud.toNat, supply := { s.supply with cause := cause } }

/-- Step 2: the working copy is loaded from a settings area that passes its check, else every item takes its default and
SETTINGS_LOST is set (R197). -/
def loadSettings (s : State) : State :=
  match s.nvs.settingsArea with
  | some st =>
    if settingsOk st then { s with settings := st, nvs := { s.nvs with settingsLost := false } }
    else { s with settings := defaultSettings, nvs := { s.nvs with settingsLost := true } }
  | none => { s with settings := defaultSettings, nvs := { s.nvs with settingsLost := true } }

/-- Step 3: the table and STORE_DOUBT are taken from the isolation area (R157). -/
def loadTable (s : State) : State := { s with isolations := loadIsolations s.nvs.isolationArea }

/-- The conversions of the channels numbered from `n` on, `count` of them. -/
def convertFrom (codes : Channels Code) : Nat → Nat → State → State
  | 0, _, s => s
  | count + 1, n, s =>
    match channelOf n with
    | some ch => convertFrom codes count (n + 1) (convert ch (codes.get ch) s)
    | none => s

/-- Step 4: the first full scan converts all 28 channels (R19). -/
def firstScan (w : ResetWorld) (s : State) : State := convertFrom w.codes 28 1 s

/-- Step 5: each gate with valid geometry enters IDLE, with the tests of R84 (R83). -/
def enterGates (s : State) : State :=
  Gate.all.foldl (fun acc g => if geometryValid (acc.geo g) then settle (enterIdle g acc) else acc) s

/-- Step 6: ESTOP is sampled, and an assertion found is taken as one (R145). -/
def sampleEstop (s : State) : State := if s.lines.estop then estopTaken s else s

/-- Step 7: the supply enters RUN with its limit, the second timer and the scan timer run, and both link units enter HUNT.
No step of start-up has set a notice flag (R175, R197). -/
def enterRun (s : State) : State :=
  let r := applyLimit (enterSupply .run true none s)
  let s1 := finish r.2 r.1
  { s1 with
    clock := { s1.clock with second := some Config.secondTime }
    measure := { s1.measure with scan := none, scanTimer := some Config.fullScanTime, sinceScan := 0, fullDue := false }
    links := ⟨.reset, .reset⟩
    started := true }

/-- The reset and the whole of start-up (R197). -/
def startUp (w : ResetWorld) (cause : ResetCause) (s : State) : State :=
  enterRun (sampleEstop (enterGates (firstScan w (loadTable (loadSettings (sampleStraps w cause (resetTables w s)))))))

/-- DEVICE_RESET (R197). A reset begins under at least one cause: under none, nothing happens. -/
def execDeviceReset (w : ResetWorld) (s : State) : Host.Outcome State Fault Refusal :=
  .next (match causeOf w.causes with
    | some c => startUp w c s
    | none => s)

end Sys2Proof.Machine
end

