-- ==== Sys2Proof/Machine/Travel.lean ====
section
/-! DEFINITION. The travel computation in its eight stages (R109 to R122) and the trim step (R139, R140). -/

namespace Sys2Proof.Machine

/-! ### Stage 3: the speed limit -/

/-- The head band limit while the head is not disputed: the last entry in stored order at or below |h| (R114). -/
def bandAt (bands : List Band) (h : Int) (rg : Nat) : Nat :=
  bands.foldl (fun best b => if b.threshold ≤ h.natAbs then b.limit else best) rg

/-- The head band limit while the head is disputed: the smallest limit of the table (R114). -/
def bandLeast : List Band → Nat → Nat
  | [], rg => rg
  | [b], _ => b.limit
  | b :: rest, rg => min b.limit (bandLeast rest rg)

/-- R_head (R114). -/
def headBandLimit (s : State) (g : Gate) : Nat :=
  if s.measure.headDisputed then bandLeast s.settings.site.bands (s.maxSpeed g)
  else bandAt s.settings.site.bands s.measure.head (s.maxSpeed g)

/-- vmax: the least of the order's rate, R_g, R_head and, on BATTERY, the economy cap (R112, R115). -/
def speedLimit (s : State) (g : Gate) (rate : Option Nat) : Nat :=
  let v := min (rate.getD (s.maxSpeed g)) (min (s.maxSpeed g) (headBandLimit s g))
  match s.supply.source with
  | .battery => min v s.settings.site.economy
  | .mains => v

/-! ### Stage 4: ramp and reversal -/

/-- Whether the limited demand turns against a nonzero previous demand (R116). -/
def reverses (vPrev vLim : Int) : Bool := decide (vPrev * vLim < 0)

/-- The ramp: a rise in speed is held to A per step (R116). -/
def ramp (vPrev vLim : Int) (accel : Nat) : Int :=
  if vPrev.natAbs + accel < vLim.natAbs then
    if vLim < 0 then -((vPrev.natAbs + accel : Nat) : Int) else ((vPrev.natAbs + accel : Nat) : Int)
  else vLim

/-! ### Stage 6: correction and split -/

/-- The skew correction c (R119 step 1). -/
def correction (ks cap : Nat) (v skew : Int) : Int :=
  if v = 0 then 0 else clampInt (-(cap : Int)) cap ((ks * skew).tdiv 16)

/-- The sign rule and the full-speed clamp of one hoist's speed (R119 steps 3 and 4). -/
def hoistSpeed (fh : Nat) (v vi : Int) : Int :=
  let x := if 0 < v then max vi 0 else if v < 0 then min vi 0 else vi
  clampInt (-(fh : Int)) fh x

/-! ### Stage 7: duty -/

/-- The duty of a speed: the quotient rounded half up, clamped to 1000, with the breakaway floor (R120). -/
def dutyOf (fh floor speed : Nat) : Nat :=
  let d := min 1000 ((speed * 1000 + fh / 2) / fh)
  if 1 ≤ d ∧ d < floor then floor else d

/-- The direction and duty of one hoist from its speed (R120). -/
def driveOf (fh floor : Nat) (vi : Int) : Direction × Nat :=
  let d := dutyOf fh floor vi.natAbs
  if d = 0 then (.neither, 0) else if 0 < vi then (.raise, d) else if vi < 0 then (.lower, d) else (.neither, 0)

/-! ### Stage 8: the stall window -/

/-- What the stall window comes to at a step (R122). -/
inductive WindowStep where
  | keep (w : Option StallWindow)
  | stalled (w : Option StallWindow)
deriving DecidableEq, Repr

/-- The stall window at a step of demand `v` and mean `m` (R122). -/
def stepWindow (w : Option StallWindow) (steps distance : Nat) (v m : Int) : WindowStep :=
  if v = 0 then .keep none
  else
    match w with
    | none => .keep (some { ref := m, count := 1 })
    | some x =>
      if x.count + 1 < steps then .keep (some { x with count := x.count + 1 })
      else if (m - x.ref).natAbs < distance then .stalled (some { x with count := steps })
      else .keep (some { ref := m, count := 1 })

/-! ### The step as a whole -/

/-- How a travel step ends, as a function of its inputs alone (R90). The settle counter a step leaves is given with every
ending, the demand with those that reach stage 8, and v_prev and the window with a skew fault, which may find the gate at
rest. -/
inductive StepEnd where
  | arrived (settle : Nat)
  | reversal (settle : Nat)
  | guarded (settle : Nat)
  | skewed (settle : Nat) (vPrev : Int) (w : Option StallWindow)
  | stalled (settle : Nat) (v : Int) (w : Option StallWindow) (l r : Direction × Nat)
  | moved (settle : Nat) (v : Int) (w : Option StallWindow) (l r : Direction × Nat)
deriving DecidableEq, Repr

/-- The inputs of a travel step (R109). -/
structure StepInputs where
  target : Int
  left : Int
  right : Int
  vPrev : Int
  settle : Nat
  window : Option StallWindow
  vmax : Nat
  fullSpeed : Nat
  guard : Option Int
  head : Int
  disputed : Bool
  tune : Tuning
deriving DecidableEq, Repr

/-- Stages 6 to 8 with a demand `v` (R118 to R122). A step at rest leaves v_prev at 0 and the window empty, whether or not it
passes the skew test (R116, R122). -/
def lateStages (x : StepInputs) (settle : Nat) (v : Int) : StepEnd :=
  let skew := x.left - x.right
  if x.tune.skewTrip < skew.natAbs then .skewed settle (if v = 0 then 0 else x.vPrev) (if v = 0 then none else x.window)
  else
    let c := correction x.tune.ks x.tune.corrCap v skew
    let l := driveOf x.fullSpeed x.tune.breakaway (hoistSpeed x.fullSpeed v (v - c))
    let r := driveOf x.fullSpeed x.tune.breakaway (hoistSpeed x.fullSpeed v (v + c))
    match stepWindow x.window x.tune.stallSteps x.tune.stallDistance v (meanOf x.left x.right) with
    | .keep w => .moved settle v w l r
    | .stalled w => .stalled settle v w l r

/-- Stage 5: whether the raise guard stops a demand (R117). -/
def guardStops (x : StepInputs) (v : Int) : Bool :=
  decide (0 < v) &&
    match x.guard with
    | some gd => decide (x.head < gd) || x.disputed
    | none => false

/-- The eight stages (R110 to R122). -/
def travelComputation (x : StepInputs) : StepEnd :=
  let e := x.target - meanOf x.left x.right
  if e.natAbs ≤ x.tune.deadBand then
    let n := min (x.settle + 1) x.tune.settleCount
    if n = x.tune.settleCount then .arrived n else lateStages x n 0
  else
    let vLim := clampInt (-(x.vmax : Int)) x.vmax ((x.tune.kp * e).tdiv 16)
    if reverses x.vPrev vLim then .reversal 0
    else
      let v := ramp x.vPrev vLim x.tune.accel
      if guardStops x v then .guarded 0 else lateStages x 0 v

/-! ### Reading the positions -/

/-- The positions a step works with: the latest a hoist has, and a free value where it has none (R109, R139). -/
def stepPosition (s : State) (g : Gate) (d : Side) (k : Nat) : Int :=
  (s.hoistMeas g d).position.getD (Config.absentPosition (s.freeCount + k))

/-- The counter of free values moves on past those a step on this gate may have used. -/
def useFree (g : Gate) (s : State) : State :=
  if (s.hoistMeas g .left).position.isSome && (s.hoistMeas g .right).position.isSome then s
  else { s with freeCount := s.freeCount + 2 }

/-- The inputs of a gate's travel step for its order in force (R109). -/
def stepInputs (s : State) (g : Gate) (o : Order) : StepInputs :=
  { target := o.target, left := stepPosition s g .left 0, right := stepPosition s g .right 1,
    vPrev := (s.gate g).vPrev, settle := (s.gate g).settle, window := (s.gate g).window,
    vmax := speedLimit s g o.rate, fullSpeed := s.fullSpeed g, guard := o.guard, head := s.measure.head,
    disputed := s.measure.headDisputed, tune := s.tune g }

/-- Stage 8's hand-over and bookkeeping: duties, then v_prev, then the window (R121). -/
def bookStep (g : Gate) (v : Int) (w : Option StallWindow) (l r : Direction × Nat) (s : State) : State :=
  (driveHoists g l r s).updGate g fun q => { q with vPrev := v, window := w }

/-- The travel step of a gate in TRAVEL, and what the sequencer does at each of its ends (R90). A step that arrives has a
demand of 0 (R111): it leaves v_prev at 0 and the window empty (R116, R122). -/
def travelStep (g : Gate) (o : Order) (s : State) : State × List Gate :=
  let s0 := useFree g s
  let setSettle (n : Nat) : State := s0.updGate g fun q => { q with settle := n }
  let setContext (n : Nat) (v : Int) (w : Option StallWindow) : State :=
    s0.updGate g fun q => { q with settle := n, vPrev := v, window := w }
  match travelComputation (stepInputs s g o) with
  | .arrived n => retire g o.number .arrived (setContext n 0 none)
  | .reversal n => (enterReversing g (setSettle n), [])
  | .guarded n => (addHold g .head (setSettle n), [])
  | .skewed n v w => faultStop g .skew .both (setContext n v w)
  | .stalled n v w l r => faultStop g .stall .both (bookStep g v w l r (setSettle n))
  | .moved n v w l r =>
    ((bookStep g v w l r (setSettle n)).updGate g fun q =>
      { q with stepTimer := some (s.tune g).stepPeriod }, [])

/-! ### The trim step (R139, R140) -/

/-- Whether a skew completes the trim: at or below half the skew trip (R139 step 2). -/
def trimDone (trip : Nat) (skew : Int) : Bool := Nat.ble skew.natAbs (trip / 2)

/-- The trim step of a gate in TRIM: complete, or the higher hoist lowers alone (R139, R140). -/
def trimStep (g : Gate) (s : State) : State :=
  let skew := stepPosition s g .left 0 - stepPosition s g .right 1
  let s0 := useFree g s
  if trimDone (s.tune g).skewTrip skew then enterStopping g s0
  else
    let d := driveOf (s.fullSpeed g) (s.tune g).breakaway (-((s.tune g).trimSpeed : Int))
    let l : Direction × Nat := if 0 < skew then d else (.neither, 0)
    let r : Direction × Nat := if 0 < skew then (.neither, 0) else d
    (driveHoists g l r s0).updGate g fun q => { q with stepTimer := some (s.tune g).stepPeriod }

end Sys2Proof.Machine
end

