-- ==== Sys2Proof/Machine/TimedEvents.lean ====
section
/-! DEFINITION. The events of timers, conversions and writes (01, 04 to 09, 11). The expiry of a timer that does not run does
not arise, and changes nothing (notes/assumptions 2). -/

namespace Sys2Proof.Machine

/-! ### Scans and conversions (R2, R4) -/

/-- SCAN_TIMER_EXPIRY (R2). A scan in progress runs on. -/
def execScanTimerExpiry (s : State) : Host.Outcome State Fault Refusal :=
  .next (if s.measure.scanTimer.isSome && s.measure.scan.isNone then startScan s else s)

/-- The channel that a scan in progress converts next. -/
def nextChannel (s : State) : Option Channel :=
  match s.measure.scan with
  | some sc => channelOf sc.next
  | none => none

/-- CONVERSION_COMPLETE: the conversion of the scan's next channel (R4). -/
def execConversionComplete (code : Code) (s : State) : Host.Outcome State Fault Refusal :=
  .next (match nextChannel s with
    | some ch => advanceScan (closeEvent (convert ch code s))
    | none => s)

/-! ### The clock (R63) -/

/-- The clock counts up by one, and the second timer restarts (R63, R64). -/
def countSecond (s : State) : State :=
  { s with clock := { s.clock with value := (s.clock.value + 1) % Config.clockSpan, second := some Config.secondTime } }

/-- TICK (R63). -/
def execTick (s : State) : Host.Outcome State Fault Refusal :=
  .next (if s.clock.second.isSome then
      closeEvent (clockEvaluation (countSecond s).clock.value (countSecond s)).state
    else s)

/-! ### Write completions (R155, R196) -/

/-- The store after a write: no write in flight, and the area holding the image, or after NOT_KEPT none that passes its
check (R196). -/
def settleNvs (f : Nvs → Nvs) (s : State) : State :=
  let n := f s.nvs
  { s with nvs := { n with flight := none, timer := none } }

/-- The completion of an isolation write (R155): Kept marks, then the answers, then STORE, then the next write. -/
def isolationWritten (kept : Bool) (im : IsoImage) (s : State) : State :=
  let s1 := settleNvs (fun n => { n with isolationArea := if kept then some im else none })
    (s.updEntries (List.map (markKept kept im)))
  startWrite (noticeStore (answerAllWaiting (.isolation im) kept s1))

/-- ISOLATION_WRITE_COMPLETE (R155). -/
def execIsolationWriteComplete (kept : Bool) (s : State) : Host.Outcome State Fault Refusal :=
  .next (match s.nvs.flight with
    | some (.isolation im) => isolationWritten kept im s
    | _ => s)

/-- The completion of a settings write (R196). -/
def settingsWritten (kept : Bool) (st : Settings) (s : State) : State :=
  let s1 := settleNvs (fun n =>
    { n with settingsArea := if kept then some st else none, settingsLost := !kept && n.settingsLost }) s
  startWrite (noticeStore (answerAllWaiting (.settings st) kept s1))

/-- SETTINGS_WRITE_COMPLETE (R196). -/
def execSettingsWriteComplete (kept : Bool) (s : State) : Host.Outcome State Fault Refusal :=
  .next (match s.nvs.flight with
    | some (.settings st) => settingsWritten kept st s
    | _ => s)

/-! ### The gates' timers (R88 to R95, R139, R141) -/

/-- TRAVEL_STEP: a step timer expiry in TRAVEL (R90). -/
def execTravelStep (g : Gate) (s : State) : Host.Outcome State Fault Refusal :=
  .next (match (s.gate g).st, (s.gate g).stepTimer, s.orderInForce g with
    | .travel, some _, some o =>
      let r := travelStep g o s
      finish r.2 r.1
    | _, _, _ => s)

/-- LIFT_TIMER_EXPIRY: a gate in RELEASING enters TRAVEL (R89). -/
def execLiftTimerExpiry (g : Gate) (s : State) : Host.Outcome State Fault Refusal :=
  .next (match (s.gate g).st, (s.gate g).phaseTimer with
    | .releasing, some _ => enterTravel g s
    | _, _ => s)

/-- DWELL_TIMER_EXPIRY: a gate in REVERSING enters RELEASING again (R92). -/
def execDwellTimerExpiry (g : Gate) (s : State) : Host.Outcome State Fault Refusal :=
  .next (match (s.gate g).st, (s.gate g).phaseTimer with
    | .reversing, some _ => enterReleasing g (s.updGate g fun q => { q with vPrev := 0 })
    | _, _ => s)

/-- The end of a stop: the slot is released, and the gate enters the state its order in force gives (R95). In HELD and in
WAIT_GRANT the store tests it for preemption (R47). -/
def endStop (g : Gate) (s : State) : State × List Gate :=
  let s1 := releaseSlot g s
  match s.orderInForce g with
  | none => enterIdle g s1
  | some o => if o.state = .held then (enterHeld g s1, [g]) else (enterWaitGrant g s1, [g])

/-- SET_TIMER_EXPIRY (R95). -/
def execSetTimerExpiry (g : Gate) (s : State) : Host.Outcome State Fault Refusal :=
  .next (match (s.gate g).st, (s.gate g).phaseTimer with
    | .stopping, some _ =>
      let r := endStop g s
      finish r.2 r.1
    | _, _ => s)

/-- TRIM_STEP: a step timer expiry in TRIM (R139). -/
def execTrimStep (g : Gate) (s : State) : Host.Outcome State Fault Refusal :=
  .next (match (s.gate g).st, (s.gate g).stepTimer with
    | .trim, some _ => trimStep g s
    | _, _ => s)

/-- TRIM_LIMIT_EXPIRY: a gate in TRIM takes a TRIM fault (R141). -/
def execTrimLimitExpiry (g : Gate) (s : State) : Host.Outcome State Fault Refusal :=
  .next (match (s.gate g).st, (s.gate g).trimTimer with
    | .trim, some _ =>
      let r := raiseFault g .trim .both s
      finish r.2 r.1
    | _, _ => s)

/-! ### The supply's timers (R170, R172) -/

/-- DROP_OUT_EXPIRY: the supply passes from PARKING to PARKED (R170, R3). -/
def execDropOutExpiry (s : State) : Host.Outcome State Fault Refusal :=
  .next (match s.supply.st, s.supply.phase with
    | .parking, some _ => parkScan (enterSupply .parked false none s)
    | _, _ => s)

/-- SETTLE_TIMER_EXPIRY: the supply passes from WAKING to RUN with its limit by source (R172). -/
def execSettleTimerExpiry (s : State) : Host.Outcome State Fault Refusal :=
  .next (match s.supply.st, s.supply.phase with
    | .waking, some _ =>
      let r := applyLimit (enterSupply .run true none s)
      finish r.2 r.1
    | _, _ => s)

end Sys2Proof.Machine
end

