-- ==== Sys2Proof/Machine/Dispatch.lean ====
section
/-! DEFINITION. What each command does to everything but the queue of commands: one arm for each row of
spec/opcode_table.json, each a direct call of its meaning. -/

namespace Sys2Proof.Machine

/-- The meaning of a command. -/
def exec (i : Instr) (s : State) : Host.Outcome State Fault Refusal :=
  match i with
  | .placeOrder p seq payload => Sys2Proof.Machine.execPlaceOrder p seq payload s
  | .placeSet p seq payload => Sys2Proof.Machine.execPlaceSet p seq payload s
  | .amendOrder p seq payload => Sys2Proof.Machine.execAmendOrder p seq payload s
  | .amendBatch p seq payload => Sys2Proof.Machine.execAmendBatch p seq payload s
  | .withdrawOrder p seq payload => Sys2Proof.Machine.execWithdrawOrder p seq payload s
  | .withdrawGate p seq payload => Sys2Proof.Machine.execWithdrawGate p seq payload s
  | .stopAll p seq payload => Sys2Proof.Machine.execStopAll p seq payload s
  | .releaseSet p seq payload => Sys2Proof.Machine.execReleaseSet p seq payload s
  | .readOrder p seq payload => Sys2Proof.Machine.execReadOrder p seq payload s
  | .listOrders p seq payload => Sys2Proof.Machine.execListOrders p seq payload s
  | .readSet p seq payload => Sys2Proof.Machine.execReadSet p seq payload s
  | .readGate p seq payload => Sys2Proof.Machine.execReadGate p seq payload s
  | .readOutcome p seq payload => Sys2Proof.Machine.execReadOutcome p seq payload s
  | .clearFault p seq payload => Sys2Proof.Machine.execClearFault p seq payload s
  | .resetGate p seq payload => Sys2Proof.Machine.execResetGate p seq payload s
  | .holdAll p seq payload => Sys2Proof.Machine.execHoldAll p seq payload s
  | .releaseAll p seq payload => Sys2Proof.Machine.execReleaseAll p seq payload s
  | .placeIsolation p seq payload => Sys2Proof.Machine.execPlaceIsolation p seq payload s
  | .removeIsolation p seq payload => Sys2Proof.Machine.execRemoveIsolation p seq payload s
  | .listIsolations p seq payload => Sys2Proof.Machine.execListIsolations p seq payload s
  | .confirmIsolations p seq payload => Sys2Proof.Machine.execConfirmIsolations p seq payload s
  | .readLevels p seq payload => Sys2Proof.Machine.execReadLevels p seq payload s
  | .readHoists p seq payload => Sys2Proof.Machine.execReadHoists p seq payload s
  | .setClock p seq payload => Sys2Proof.Machine.execSetClock p seq payload s
  | .readClock p seq payload => Sys2Proof.Machine.execReadClock p seq payload s
  | .park p seq payload => Sys2Proof.Machine.execPark p seq payload s
  | .readSupply p seq payload => Sys2Proof.Machine.execReadSupply p seq payload s
  | .apportion p seq payload => Sys2Proof.Machine.execApportion p seq payload s
  | .clearStore p seq payload => Sys2Proof.Machine.execClearStore p seq payload s
  | .putSetting p seq payload => Sys2Proof.Machine.execPutSetting p seq payload s
  | .getSetting p seq payload => Sys2Proof.Machine.execGetSetting p seq payload s
  | .keepSettings p seq payload => Sys2Proof.Machine.execKeepSettings p seq payload s
  | .lockGeometry p seq payload => Sys2Proof.Machine.execLockGeometry p seq payload s
  | .unlockGeometry p seq payload => Sys2Proof.Machine.execUnlockGeometry p seq payload s
  | .readNotices p seq payload => Sys2Proof.Machine.execReadNotices p seq payload s
  | .identify p seq payload => Sys2Proof.Machine.execIdentify p seq payload s
  | .frameComplete p c => Sys2Proof.Machine.execFrameComplete p c s
  | .framingError p => Sys2Proof.Machine.execFramingError p s
  | .gapTimerExpiry p => Sys2Proof.Machine.execGapTimerExpiry p s
  | .responseStart p => Sys2Proof.Machine.execResponseStart p s
  | .responseSent p => Sys2Proof.Machine.execResponseSent p s
  | .localChange a => Sys2Proof.Machine.execLocalChange a s
  | .estopAssert => Sys2Proof.Machine.execEstopAssert s
  | .estopRelease => Sys2Proof.Machine.execEstopRelease s
  | .mainsOkChange a => Sys2Proof.Machine.execMainsOkChange a s
  | .deviceReset w => Sys2Proof.Machine.execDeviceReset w s
  | .scanTimerExpiry => Sys2Proof.Machine.execScanTimerExpiry s
  | .conversionComplete code => Sys2Proof.Machine.execConversionComplete code s
  | .tick => Sys2Proof.Machine.execTick s
  | .isolationWriteComplete kept => Sys2Proof.Machine.execIsolationWriteComplete kept s
  | .settingsWriteComplete kept => Sys2Proof.Machine.execSettingsWriteComplete kept s
  | .travelStep g => Sys2Proof.Machine.execTravelStep g s
  | .liftTimerExpiry g => Sys2Proof.Machine.execLiftTimerExpiry g s
  | .dwellTimerExpiry g => Sys2Proof.Machine.execDwellTimerExpiry g s
  | .setTimerExpiry g => Sys2Proof.Machine.execSetTimerExpiry g s
  | .trimStep g => Sys2Proof.Machine.execTrimStep g s
  | .trimLimitExpiry g => Sys2Proof.Machine.execTrimLimitExpiry g s
  | .dropOutExpiry => Sys2Proof.Machine.execDropOutExpiry s
  | .settleTimerExpiry => Sys2Proof.Machine.execSettleTimerExpiry s
  | .characterArrival p c => Sys2Proof.Machine.execCharacterArrival p c s

end Sys2Proof.Machine
end

