-- ==== Sys2Proof/Machine/Step.lean ====
section
/-! DEFINITION. One step of the block: it takes the command at the front of its queue. On an empty queue one millisecond
passes: every running timer counts down (notes/assumptions 2). -/

namespace Sys2Proof.Machine

/-- A running timer has one millisecond less to run; at 0 its expiry is due. -/
def Timer.elapse (t : Timer) : Timer := t.map fun n => n - 1

/-- One millisecond passes for a gate's timers (R81, R138). -/
def GateSeq.elapse (q : GateSeq) : GateSeq :=
  { q with stepTimer := Timer.elapse q.stepTimer, phaseTimer := Timer.elapse q.phaseTimer,
           trimTimer := Timer.elapse q.trimTimer }

/-- One millisecond passes for a link unit's timers (R177, R181). -/
def Link.elapse (k : Link) : Link := { k with gap := Timer.elapse k.gap, delay := Timer.elapse k.delay }

/-- One millisecond passes with no command taken (notes/assumptions 2). -/
def State.elapse (s : State) : State :=
  { s with
    measure := { s.measure with scanTimer := Timer.elapse s.measure.scanTimer, sinceScan := s.measure.sinceScan + 1 }
    clock := { s.clock with second := Timer.elapse s.clock.second }
    gates := ⟨s.gates.g1.elapse, s.gates.g2.elapse, s.gates.g3.elapse, s.gates.g4.elapse, s.gates.g5.elapse,
      s.gates.g6.elapse⟩
    supply := { s.supply with phase := Timer.elapse s.supply.phase }
    nvs := { s.nvs with timer := Timer.elapse s.nvs.timer }
    links := ⟨s.links.station.elapse, s.links.panel.elapse⟩ }

/-- The state with its queue of commands replaced. -/
def State.withPending (s : State) (l : List Instr) : State := { s with pending := l }

/-- One step: the command at the front of the queue is executed on the state with the queue's rest. -/
def step (s : State) : Host.Outcome State Fault Refusal :=
  match s.pending with
  | [] => .next s.elapse
  | c :: rest => exec c (s.withPending rest)

/-- The state with the command that a table word spells put at the front of its queue, and unchanged where it spells
none. -/
def State.withFetchWord (s : State) (nbits w : Nat) : State :=
  match decodeTableWord nbits w with
  | some c => s.withPending (c :: s.pending)
  | none => s

end Sys2Proof.Machine
end

