-- ==== Sys2Proof/Safety.lean ====
section
/-! DEFINITION. What counts as a sound state of the block, in the terms the claims use: laws of the spec that hold between
events, each a property of one state. -/

namespace Sys2Proof.Machine

/-! ### The hoists (R82, R124 to R126) -/

/-- The gate states whose row of R82 has the brake-release lines on. -/
def GateState.lifts : GateState → Bool
  | .releasing => true
  | .travel => true
  | .trim => true
  | _ => false

/-- The gate states in which a raise or lower output may be active (R124). -/
def GateState.drives : GateState → Bool
  | .travel => true
  | .trim => true
  | _ => false

/-- A hoist whose outputs agree (R124, R126): no direction without its brake lifted, a direction exactly with a duty, and a
duty of 0 or from Dmin to 1000. -/
def Hoist.sound (dmin : Nat) (h : Hoist) : Prop :=
  (h.brake = false → h.dir = .neither) ∧ (h.dir = .neither ↔ h.duty = 0) ∧
    (h.duty = 0 ∨ dmin ≤ h.duty ∧ h.duty ≤ 1000)

/-- A hoist as its gate's state allows it (R82, R124). -/
def Hoist.allowed (st : GateState) (h : Hoist) : Prop :=
  (h.brake = true → st.lifts = true) ∧ (h.dir ≠ .neither → st.drives = true)

/-- The hoists are safe: under an inhibit both hoists of a gate are off (R125), and every hoist is sound and as its gate's
state allows. -/
def State.hoistsSafe (s : State) : Prop :=
  ∀ g, (s.inhibited g = true → (s.gate g).hoists = ⟨.off, .off⟩) ∧
    ∀ d, ((s.gate g).hoists.get d).sound (s.tune g).breakaway ∧ ((s.gate g).hoists.get d).allowed (s.gate g).st

/-! ### The settings (R190, R197) -/

/-- Every item of the working copy lies in its range, the quotas sum to 48 or less, and every span is at least 1000. -/
def State.settingsSound (s : State) : Prop := settingsOk s.settings = true

/-! ### Orders (R20, R24, R33, R40, R42) -/

/-- An order's hold set is non-empty exactly when the order is HELD (R33). -/
def Order.holdsAgree (o : Order) : Prop := (o.state = .held ↔ o.holds.isEmpty = false)

/-- Every live order's hold set agrees with its state (R33). -/
def State.holdsSound (s : State) : Prop := ∀ g, ∀ o ∈ s.queue g, o.holdsAgree

/-- Every live order's target lies between 0 and its gate's full travel (R24). -/
def State.targetsSound (s : State) : Prop := ∀ g, ∀ o ∈ s.queue g, 0 ≤ o.target ∧ o.target ≤ s.fullTravel g

/-- The quotas are in range and sum to 48 or less, and no queue is longer than its quota (R40). -/
def State.quotasHeld (s : State) : Prop :=
  quotasOk s.settings.site.quotas = true ∧ ∀ g, (s.queue g).length ≤ s.settings.site.quotas.get g

/-- Every queue stands in the one order of R42, no acceptance sequence lies above the acceptance count, and no two live
orders have the same one (R21). -/
def State.queuesRanked (s : State) : Prop :=
  (∀ g, (s.queue g).Pairwise (fun a b => standsAhead a b = true) ∧ ∀ o ∈ s.queue g, o.sequence ≤ s.store.acceptCount) ∧
    (s.liveOrders.map fun x => x.2.sequence).Nodup

/-- Order numbers lie in 1–65535, and no two live orders have the same number (R20). -/
def State.numbersDistinct (s : State) : Prop :=
  (1 ≤ s.store.nextNumber ∧ s.store.nextNumber ≤ 65535) ∧
    (∀ x ∈ s.liveOrders, 1 ≤ x.2.number ∧ x.2.number ≤ 65535) ∧ (s.liveOrders.map fun x => x.2.number).Nodup

/-- The set table as R55 gives it: at most 24 sets, no two with the same number; each with a member at least, and its
members live orders of that set, on distinct gates; and every live order that belongs to a set a member of its record. -/
def State.setsSound (s : State) : Prop :=
  s.store.sets.length ≤ Config.maxSets ∧ (s.store.sets.map fun r => r.number).Nodup ∧
    (∀ r ∈ s.store.sets, r.members ≠ [] ∧ ∀ n ∈ r.members, ∃ x ∈ s.liveOrders, x.2.number = n ∧ x.2.setNo = some r.number) ∧
    (∀ x ∈ s.liveOrders, ∀ k, x.2.setNo = some k → ∃ r ∈ s.store.sets, r.number = k ∧ x.2.number ∈ r.members) ∧
    ∀ g, ∀ r ∈ s.store.sets, ((s.queue g).filter fun o => o.setNo == some r.number).length ≤ 1

/-- The links to the orders in force as R81 gives them: a link names a live order of its gate's queue, an order is IN_FORCE
or HELD exactly while its gate's link names it, and a gate in DISABLED, IDLE, TRIM or FAULT has none. -/
def State.linksSound (s : State) : Prop :=
  ∀ g, ((s.gate g).st ∈ [GateState.disabled, .idle, .trim, .fault] → (s.gate g).link = none) ∧
    (∀ n, (s.gate g).link = some n → ∃ o ∈ s.queue g, o.number = n) ∧
    ∀ o ∈ s.queue g, (o.state = .inForce ∨ o.state = .held ↔ (s.gate g).link = some o.number)

/-! ### Isolations (R147) -/

/-- An isolation table as R147 gives it: at most 24 entries, each with its fields in range, and no two with the same code
and the same scope. -/
def entriesSound (l : List IsoRecord) : Prop :=
  l.length ≤ Config.maxIsolations ∧ (∀ e ∈ l, 1 ≤ e.code ∧ e.code ≤ 4294967295 ∧ e.crew ≤ 65535) ∧
    l.Pairwise (fun a b => ¬ (a.code = b.code ∧ a.scope = b.scope))

/-- The table is sound, and so is every image of it in the Nonvolatile Store. -/
def State.isolationsSound (s : State) : Prop :=
  entriesSound s.isolations.image.entries ∧ (∀ im, s.nvs.isolationArea = some im → entriesSound im.entries) ∧
    ∀ im, s.nvs.flight = some (.isolation im) → entriesSound im.entries

/-! ### Slots (R161 to R165) -/

/-- The gate states that hold a drive slot (R82). -/
def GateState.holdsSlot : GateState → Bool
  | .releasing => true
  | .travel => true
  | .reversing => true
  | .stopping => true
  | .trim => true
  | _ => false

/-- The gates that hold a slot, in grant order. -/
def State.holderGates (s : State) : List Gate := s.arbiter.holders.map fun h => h.gate

/-- The wait list and the holders agree with the gates' states, no gate twice, and nothing is owed between events (R82,
R162). -/
def State.slotsSound (s : State) : Prop :=
  (∀ g, (g ∈ s.arbiter.waiters ↔ (s.gate g).st = .waitGrant) ∧
    (g ∈ s.holderGates ↔ (s.gate g).st.holdsSlot = true)) ∧
    s.arbiter.waiters.Nodup ∧ s.holderGates.Nodup ∧ s.arbiter.fresh = [] ∧ s.arbiter.due = false

/-- The drive limit is the one R161 gives, and the running holders number no more than it (R163, R165). -/
def State.limitHeld (s : State) : Prop :=
  s.arbiter.limit = limitOf s.supply.st s.supply.source s.settings.site ∧
    (runningHolders s).length ≤ s.arbiter.limit

/-! ### Lines that others follow (R167, R168, R182) -/

/-- The seat follows LOCAL, the source follows MAINS_OK, and DRIVE_SUPPLY is on in RUN and WAKING alone. -/
def State.linesFollowed (s : State) : Prop :=
  s.seat = seatOf s.lines.localKey ∧ s.supply.source = sourceOf s.lines.mainsOk ∧
    (s.supply.driveSupply = true ↔ s.supply.st = .run ∨ s.supply.st = .waking)

/-! ### DISABLED gates (R83) -/

/-- After start-up a gate is in DISABLED exactly while its geometry is not valid. -/
def State.disabledSound (s : State) : Prop :=
  s.started = true → ∀ g, ((s.gate g).st = .disabled ↔ geometryValid (s.geo g) = false)

/-! ### The taking and the serving of requests (R176, R179, R181, R183, R188) -/

/-- A request command taken apart: its port, its kind, its sequence character and its payload. -/
def requestOf : Instr → Option (Port × Kind × Byte × List Byte)
  | .placeOrder p seq payload => some (p, .placeOrder, seq, payload)
  | .placeSet p seq payload => some (p, .placeSet, seq, payload)
  | .amendOrder p seq payload => some (p, .amendOrder, seq, payload)
  | .amendBatch p seq payload => some (p, .amendBatch, seq, payload)
  | .withdrawOrder p seq payload => some (p, .withdrawOrder, seq, payload)
  | .withdrawGate p seq payload => some (p, .withdrawGate, seq, payload)
  | .stopAll p seq payload => some (p, .stopAll, seq, payload)
  | .releaseSet p seq payload => some (p, .releaseSet, seq, payload)
  | .readOrder p seq payload => some (p, .readOrder, seq, payload)
  | .listOrders p seq payload => some (p, .listOrders, seq, payload)
  | .readSet p seq payload => some (p, .readSet, seq, payload)
  | .readGate p seq payload => some (p, .readGate, seq, payload)
  | .readOutcome p seq payload => some (p, .readOutcome, seq, payload)
  | .clearFault p seq payload => some (p, .clearFault, seq, payload)
  | .resetGate p seq payload => some (p, .resetGate, seq, payload)
  | .holdAll p seq payload => some (p, .holdAll, seq, payload)
  | .releaseAll p seq payload => some (p, .releaseAll, seq, payload)
  | .placeIsolation p seq payload => some (p, .placeIsolation, seq, payload)
  | .removeIsolation p seq payload => some (p, .removeIsolation, seq, payload)
  | .listIsolations p seq payload => some (p, .listIsolations, seq, payload)
  | .confirmIsolations p seq payload => some (p, .confirmIsolations, seq, payload)
  | .readLevels p seq payload => some (p, .readLevels, seq, payload)
  | .readHoists p seq payload => some (p, .readHoists, seq, payload)
  | .setClock p seq payload => some (p, .setClock, seq, payload)
  | .readClock p seq payload => some (p, .readClock, seq, payload)
  | .park p seq payload => some (p, .park, seq, payload)
  | .readSupply p seq payload => some (p, .readSupply, seq, payload)
  | .apportion p seq payload => some (p, .apportion, seq, payload)
  | .clearStore p seq payload => some (p, .clearStore, seq, payload)
  | .putSetting p seq payload => some (p, .putSetting, seq, payload)
  | .getSetting p seq payload => some (p, .getSetting, seq, payload)
  | .keepSettings p seq payload => some (p, .keepSettings, seq, payload)
  | .lockGeometry p seq payload => some (p, .lockGeometry, seq, payload)
  | .unlockGeometry p seq payload => some (p, .unlockGeometry, seq, payload)
  | .readNotices p seq payload => some (p, .readNotices, seq, payload)
  | .identify p seq payload => some (p, .identify, seq, payload)
  | .frameComplete _ _ => none
  | .framingError _ => none
  | .gapTimerExpiry _ => none
  | .responseStart _ => none
  | .responseSent _ => none
  | .localChange _ => none
  | .estopAssert => none
  | .estopRelease => none
  | .mainsOkChange _ => none
  | .deviceReset _ => none
  | .scanTimerExpiry => none
  | .conversionComplete _ => none
  | .tick => none
  | .isolationWriteComplete _ => none
  | .settingsWriteComplete _ => none
  | .travelStep _ => none
  | .liftTimerExpiry _ => none
  | .dwellTimerExpiry _ => none
  | .setTimerExpiry _ => none
  | .trimStep _ => none
  | .trimLimitExpiry _ => none
  | .dropOutExpiry => none
  | .settleTimerExpiry => none
  | .characterArrival _ _ => none

/-- A request that arrives at the port now is taken: the device is past start-up, has an address, receives on the port,
and owes no response there. -/
def State.takes (s : State) (p : Port) : Prop := receives s p = true ∧ s.address ≠ 0 ∧ owes s p = false

/-- A request of the kind that arrives at the port now is taken, and passes the seat test (R183). -/
def State.serves (s : State) (p : Port) (k : Kind) : Prop := s.takes p ∧ seatRefusal (seatNeed k) p s = none

/-- The port holds a request of the kind, answered with a status and a payload: the response is formed, with 2 ms to its
start (R179, R181). -/
def State.answered (t : State) (p : Port) (k : Kind) (seq : Byte) (st : Status) (payload : List Byte) : Prop :=
  (t.link p).request = some { kind := kindCode k, seq := seq,
                              progress := .ready (responseFrame t.address (kindCode k) seq st .none payload) } ∧
    (t.link p).delay = some Config.responseDelay

/-- The port holds a request of the kind that waits on a write (R179). -/
def State.waitsFor (t : State) (p : Port) (k : Kind) (seq : Byte) (started : Bool) (what : Waiting) : Prop :=
  (t.link p).request = some { kind := kindCode k, seq := seq, progress := .waiting started what } ∧
    (t.link p).delay = some Config.responseDelay

/-! ### The fields of a record (R189) -/

/-- One character. -/
def char1 (n : Nat) : List Byte := [BitVec.ofNat 8 n]

/-- A field of two characters, high byte first (R189). -/
def chars2 (n : Nat) : List Byte := [BitVec.ofNat 8 (n / 256), BitVec.ofNat 8 n]

/-- A field of four characters, high byte first (R189). -/
def chars4 (n : Nat) : List Byte :=
  [BitVec.ofNat 8 (n / 16777216), BitVec.ofNat 8 (n / 65536), BitVec.ofNat 8 (n / 256), BitVec.ofNat 8 n]

/-- A value's two characters in two's complement (R189). -/
def chars2s (x : Int) : List Byte := chars2 (x % 65536).toNat

/-- Whether a value fits a signed field of two characters. -/
abbrev fits16 (x : Int) : Prop := -32768 ≤ x ∧ x ≤ 32767

/-- A flags character, from its bits: bit 0 first. -/
def bitsOf : List Bool → Nat
  | [] => 0
  | b :: rest => (if b then 1 else 0) + 2 * bitsOf rest

/-- The characters that stand in a record from an offset on. -/
abbrev fieldAt (record : List Byte) (offset : Nat) (field : List Byte) : Prop :=
  (record.drop offset).take field.length = field

/-- The bits of a hold set: ISOLATED, ALL, HEAD, GROUP, SEAT (R189, Order record). -/
def HoldSet.bits (h : HoldSet) : List Bool := [h.isolated, h.all, h.head, h.group, h.seat]

/-- The states of gates and orders, the outcomes and the fault kinds, each at the place that is its code (R82, R189). -/
def gateStates : List GateState :=
  [.disabled, .idle, .waitGrant, .releasing, .travel, .reversing, .stopping, .held, .trim, .fault]

@[inherit_doc gateStates]
def orderStates : List OrderState := [.queued, .ready, .inForce, .held]

@[inherit_doc gateStates]
def outcomes : List Outcome := [.arrived, .withdrawn, .superseded, .overdue, .lapsed, .faulted, .cleared]

@[inherit_doc gateStates]
def faultKinds : List FaultKind := [.position, .limit, .skew, .overload, .slack, .stall, .estop, .trim]

/-- The classes, each at the place that is its code and its rank (R23, R189). -/
def classes : List OrderClass := [.routine, .tidal, .release]

/-! ### Frames -/

/-- What a command on orders and gates spares: the clock, the settings, the isolations, the store's areas, the lines, the
seat, the address, the measurements apart from the load-watch counters, and every port but `p` apart from its notices. -/
structure Spared (p : Option Port) (s t : State) : Prop where
  clock : t.clock = s.clock
  holdAll : t.holdAll = s.holdAll
  isolations : t.isolations = s.isolations
  nvs : t.nvs = s.nvs
  address : t.address = s.address
  baud : t.baud = s.baud
  seat : t.seat = s.seat
  settings : t.settings = s.settings
  lines : t.lines = s.lines
  started : t.started = s.started
  pending : t.pending = s.pending
  hoists : ∀ g d, clearCounters (t.hoistMeas g d) = clearCounters (s.hoistMeas g d)
  gauges : t.measure.gauges = s.measure.gauges
  sides : t.measure.sides = s.measure.sides
  head : t.measure.head = s.measure.head ∧ t.measure.headDisputed = s.measure.headDisputed
  reception : ∀ q, (t.link q).rx = (s.link q).rx ∧ (t.link q).buffer = (s.link q).buffer ∧ (t.link q).gap = (s.link q).gap
  requests : ∀ q, some q ≠ p → (t.link q).request = (s.link q).request ∧ (t.link q).delay = (s.link q).delay

/-- What identifies an order and what it asks for: all but its state, its armed mark and its hold set. -/
def Order.fixed (o : Order) : Order := { o with state := .queued, armed := false, holds := .none }

/-- No order is placed or amended: every queue holds orders it held before, in their order, changed at most in state, armed
mark and hold set. -/
def OrdersOnlyLeave (s t : State) : Prop :=
  ∀ g, List.Sublist ((t.queue g).map Order.fixed) ((s.queue g).map Order.fixed)

/-- No gate but the one given is changed, nor its queue. -/
def OtherGatesSame (g : Gate) (s t : State) : Prop := ∀ h, h ≠ g → t.gate h = s.gate h ∧ t.queue h = s.queue h

/-- Between events the arbiter owes nothing (R163). -/
def State.quiet (s : State) : Prop := s.arbiter.fresh = [] ∧ s.arbiter.due = false

/-- A hoist with its brake lifted and its outputs off (R88). -/
def Hoist.lifted : Hoist := { brake := true, dir := .neither, duty := 0 }

/-- The two hoists of a gate as an entry with brake-release on leaves them: lifted, or off under an inhibit (R88, R125). -/
def State.liftedHoists (s : State) (g : Gate) : Sides Hoist :=
  if s.inhibited g then ⟨.off, .off⟩ else ⟨.lifted, .lifted⟩

/-! ### A change of the drive limit (R163, R165) -/

/-- A gate in TRIM has no order in force (R137, R138). -/
def State.trimsBare (s : State) : Prop := ∀ g, (s.gate g).st = .trim → (s.gate g).link = none

/-- The rank of a gate among those that hold or wait for a slot: the class of its order in force, and that of RELEASE where
it has none (R162, R164). -/
def State.slotRank (s : State) (g : Gate) : Nat :=
  match s.orderInForce g with
  | some o => classRank o.cls
  | none => 2

/-- The reclaim that a fall of the limit to `n` makes (R165, R97, R142), from the state before to the one after, naming the
gates `named`: as many running holders as outnumber the limit, the lowest in rank, and of equal rank the latest granted. A
named gate in TRIM takes a TRIM fault and gives its slot back; any other goes to STOPPING and keeps it. -/
structure Reclaims (n : Nat) (named : List Gate) (s t : State) : Prop where
  once : named.Nodup
  running : ∀ g ∈ named, g ∈ s.holderGates ∧ (s.gate g).st ≠ .stopping
  count : named.length = (s.holderGates.filter fun g => (s.gate g).st != .stopping).length - n
  choice : ∀ a ∈ named, ∀ b ∈ s.holderGates, (s.gate b).st ≠ .stopping → b ∉ named →
    s.slotRank a < s.slotRank b ∨ s.slotRank a = s.slotRank b ∧ s.holderGates.idxOf b < s.holderGates.idxOf a
  trims : ∀ g ∈ named, (s.gate g).st = .trim →
    t.gate g = { s.gate g with
      st := .fault, hoists := ⟨.off, .off⟩, stepTimer := none, phaseTimer := none, trimTimer := none,
      fault := some { kind := .trim, hoist := .both, second := s.stamp, further := 0 } }
  stops : ∀ g ∈ named, (s.gate g).st ≠ .trim →
    t.gate g = { s.gate g with
      st := .stopping, hoists := ⟨.off, .off⟩, stepTimer := none, phaseTimer := some (s.tune g).setTime,
      trimTimer := none }
  others : ∀ g, g ∉ named → t.gate g = s.gate g
  waiters : t.arbiter.waiters = s.arbiter.waiters
  holders : t.arbiter.holders =
    (s.arbiter.holders.filter fun h => !(named.contains h.gate && (s.gate h.gate).st == .trim)).map fun h =>
      if h.gate ∈ named ∨ (s.gate h.gate).st = .stopping ∧ n < s.arbiter.holders.length then { h with named := true } else h

/-- The grants that a rise of the limit to `n` makes, to the gates `granted` in the order of their grants (R163, R88, R138):
as many as the limit allows, the highest in rank first, and of equal rank the first to have joined. -/
structure Grants (n : Nat) (granted : List Gate) (s t : State) : Prop where
  once : granted.Nodup
  waiting : ∀ g ∈ granted, g ∈ s.arbiter.waiters
  count : granted.length = min s.arbiter.waiters.length (n - s.arbiter.holders.length)
  choice : ∀ a ∈ granted, ∀ b ∈ s.arbiter.waiters, b ∉ granted →
    s.slotRank b < s.slotRank a ∨ s.slotRank b = s.slotRank a ∧ s.arbiter.waiters.idxOf a < s.arbiter.waiters.idxOf b
  order : granted.Pairwise fun a b =>
    s.slotRank b < s.slotRank a ∨ s.slotRank b = s.slotRank a ∧ s.arbiter.waiters.idxOf a < s.arbiter.waiters.idxOf b
  moves : ∀ g ∈ granted, (s.gate g).link ≠ none →
    t.gate g = { s.gate g with
      st := .releasing, hoists := s.liftedHoists g, stepTimer := none, phaseTimer := some (s.tune g).liftTime,
      trimTimer := none }
  trims : ∀ g ∈ granted, (s.gate g).link = none →
    t.gate g = { s.gate g with
      st := .trim, hoists := s.liftedHoists g, stepTimer := some (s.tune g).liftTime, phaseTimer := none,
      trimTimer := some 30000 }
  others : ∀ g, g ∉ granted → t.gate g = s.gate g
  waiters : t.arbiter.waiters = s.arbiter.waiters.filter fun g => !granted.contains g
  holders : t.arbiter.holders = s.arbiter.holders ++ granted.map fun g => { gate := g, named := false }

/-- What a change of the drive limit to `n` does: on a rise grants, on a fall a reclaim, at the same value nothing; and in
each case no order is touched (R161, R163, R165). -/
structure LimitMoves (n : Nat) (s t : State) : Prop where
  limit : t.arbiter.limit = n
  store : t.store = s.store
  rise : s.arbiter.limit < n → ∃ granted, Grants n granted s t
  fall : n < s.arbiter.limit → ∃ named, Reclaims n named s t
  same : s.arbiter.limit = n → t.gates = s.gates ∧ t.arbiter = s.arbiter

/-! ### Isolation codes (R159) -/

/-- The state with the code of every isolation entry replaced. -/
def State.recode (f : IsoEntry → Nat) (s : State) : State :=
  s.updEntries (List.map fun e => { e with code := f e })

end Sys2Proof.Machine
end

