-- ==== Sys2Proof/Certificates/Slice0/Obligations.lean ====
section
/-! DEFINITION. The statements for the provers: what the commands of the PG-612 do, rule by rule, and the invariants that
every step keeps. A statement's docstring says what it states; OBLIGATIONS.json names the rules it rests on. -/

open Sys2Proof Sys2Proof.Machine

/-! ### The queue of commands -/

/-- One step takes the command at the front of the queue and executes it on the state with the queue's rest. On an empty queue
one millisecond passes (the model's choice, notes/assumptions 2): every timer that runs has one millisecond less to run, not
below 0, the time since the last scan started is one more, and nothing else changes. -/
def Obligations.StepTakesFrontCommand : Prop :=
  (∀ (c : Instr) (rest : List Instr) (s : State), s.pending = c :: rest → step s = exec c (s.withPending rest)) ∧
  ∀ s : State, s.pending = [] →
    let less (x : Timer) : Timer := match x with
      | some n => some (n - 1)
      | none => none
    ∃ t, step s = .next t ∧
      t.measure = { s.measure with scanTimer := less s.measure.scanTimer, sinceScan := s.measure.sinceScan + 1 } ∧
      t.clock = { s.clock with second := less s.clock.second } ∧
      (∀ g, t.gate g = { s.gate g with stepTimer := less (s.gate g).stepTimer, phaseTimer := less (s.gate g).phaseTimer,
                                       trimTimer := less (s.gate g).trimTimer }) ∧
      t.supply = { s.supply with phase := less s.supply.phase } ∧ t.nvs = { s.nvs with timer := less s.nvs.timer } ∧
      (∀ q, t.link q = { s.link q with gap := less (s.link q).gap, delay := less (s.link q).delay }) ∧
      { t with measure := s.measure, clock := s.clock, gates := s.gates, supply := s.supply, nvs := s.nvs,
               links := s.links } = s

/-- Every command answers a next state, in every state, and leaves the queue of commands alone: the spec gives every
command of this block an effect, and no fault or refusal arises. -/
def Obligations.EveryCommandCompletes : Prop :=
  ∀ (c : Instr) (s : State), ∃ t, exec c s = .next t ∧ t.pending = s.pending

/-! ### Requests and the links (10) -/

/-- A request that arrives while its port owes a response is discarded, and is no more than a wake condition; one that
arrives at a port that receives nothing, or at a device with no address, does nothing. -/
def Obligations.RequestsNotTaken : Prop :=
  ∀ (c : Instr) (p : Port) (k : Kind) (seq : Byte) (payload : List Byte) (s : State),
    requestOf c = some (p, k, seq, payload) →
    (receives s p = true → s.address ≠ 0 → owes s p = true → exec c s = .next (wake s)) ∧
    (receives s p = false ∨ s.address = 0 → exec c s = .next s)

/-- The table of R183, row by row: a kind that needs the seat is refused NO_SEAT from the other port, CONFIRM ISOLATIONS and
UNLOCK GEOMETRY are refused NOT_LOCAL unless they come by the panel port with LOCAL asserted, and the seat bars no other
kind. A refusal changes nothing but the answer and the wake of its frame. -/
def Obligations.SeatNeeds : Prop :=
  ∀ (c : Instr) (p : Port) (k : Kind) (seq : Byte) (payload : List Byte) (s : State),
    requestOf c = some (p, k, seq, payload) → s.takes p →
    (k ∈ [Kind.placeOrder, .placeSet, .amendOrder, .amendBatch, .withdrawOrder, .withdrawGate, .releaseSet, .clearFault,
        .resetGate, .releaseAll, .stopAll, .setClock, .park, .apportion, .clearStore, .putSetting, .keepSettings,
        .lockGeometry] →
      (p ≠ s.seat → exec c s = .next (answerOn p (kindCode k) seq .noSeat .none [0] (wake s))) ∧
      (p = s.seat → s.serves p k)) ∧
    (k ∈ [Kind.confirmIsolations, .unlockGeometry] →
      (¬ (p = .panel ∧ s.lines.localKey = true) →
        exec c s = .next (answerOn p (kindCode k) seq .notLocal .none [0] (wake s))) ∧
      (p = .panel → s.lines.localKey = true → s.serves p k)) ∧
    (k ∈ [Kind.readOrder, .listOrders, .readSet, .readGate, .readOutcome, .holdAll, .placeIsolation, .removeIsolation,
        .listIsolations, .readLevels, .readHoists, .readClock, .readSupply, .getSetting, .readNotices, .identify] →
      s.serves p k)

/-- What a wake condition does: in PARKING and PARKED the supply passes to WAKING with DRIVE_SUPPLY on, the settle timer of
1000 ms started and the SUPPLY flag set at both ports; in RUN and WAKING, and before the end of start-up, nothing. From
PARKED a full scan starts at once, or at the end of the scan in progress; that this holds where the scan in progress is a
full one too is the model's choice (notes/assumptions 35). Nothing else changes. -/
def Obligations.WakeCondition : Prop :=
  ∀ s : State,
    (s.started = false ∨ s.supply.st = .run ∨ s.supply.st = .waking → wake s = s) ∧
    (s.started = true → s.supply.st = .parking ∨ s.supply.st = .parked →
      (wake s).supply = { s.supply with st := .waking, phase := some 1000, driveSupply := true } ∧
      (∀ q, ((wake s).link q).notices = { (s.link q).notices with supply := true } ∧
        { (wake s).link q with notices := .none } = { s.link q with notices := .none }) ∧
      (wake s).gates = s.gates ∧ (wake s).store = s.store ∧ (wake s).arbiter = s.arbiter ∧
      Spared none s (wake s) ∧ (wake s).measure.hoists = s.measure.hoists ∧
      (s.supply.st = .parking → (wake s).measure = s.measure) ∧
      (s.supply.st = .parked → s.measure.scan = none →
        (wake s).measure.scan = some { mode := .full, next := 1 } ∧ (wake s).measure.scanTimer = some 10) ∧
      (∀ sc, s.supply.st = .parked → s.measure.scan = some sc →
        (wake s).measure.scan = some sc ∧ (wake s).measure.scanTimer = none ∧ (wake s).measure.fullDue = true))

/-- The reception of one character that does not complete a frame, in each reception state; at a port that does not receive
a character changes nothing. A framing error and a gap timer expiry discard the frame being received: HUNT, the gap timer
cancelled, and nothing else. That the expiry of a gap timer that does not run changes nothing, and that the receive buffer
keeps its characters after a discard, are the model's choices (notes/assumptions 2 and 39). -/
def Obligations.CharacterReception : Prop :=
  ∀ (p : Port) (c : Byte) (s : State),
    (receives s p = false → exec (.characterArrival p c) s = .next s) ∧
    (receives s p = true → awaitsLast (s.link p) = false →
      ∃ t, exec (.characterArrival p c) s = .next t ∧
        t = { s with links := s.links.set p (t.link p) } ∧
        t.link p = { s.link p with rx := (t.link p).rx, buffer := (t.link p).buffer, gap := (t.link p).gap } ∧
        ((s.link p).rx = .hunt → c = 0xC3#8 →
          (t.link p).rx = .header ∧ (t.link p).buffer = [] ∧ (t.link p).gap = some 20) ∧
        ((s.link p).rx = .hunt → c ≠ 0xC3#8 → t.link p = s.link p) ∧
        ((s.link p).rx = .header → (s.link p).buffer = [] →
          (t.link p).rx = .header ∧ (t.link p).buffer = [c] ∧ (t.link p).gap = some 20) ∧
        (∀ a, (s.link p).rx = .header → (s.link p).buffer = [a] → 1 ≤ c.toNat → c.toNat ≤ 250 →
          (t.link p).rx = .body ∧ (t.link p).buffer = [a, c] ∧ (t.link p).gap = some 20) ∧
        (∀ a, (s.link p).rx = .header → (s.link p).buffer = [a] → c.toNat = 0 ∨ 250 < c.toNat →
          (t.link p).rx = .hunt ∧ (t.link p).gap = none) ∧
        (∀ a n body, (s.link p).rx = .body → (s.link p).buffer = a :: n :: body →
          (t.link p).rx = (if body.length + 1 < n.toNat then .body else .check) ∧
          (t.link p).buffer = a :: n :: (body ++ [c]) ∧ (t.link p).gap = some 20) ∧
        ((s.link p).rx = .check →
          (t.link p).rx = .check ∧ (t.link p).buffer = (s.link p).buffer ++ [c] ∧ (t.link p).gap = some 20)) ∧
    (receives s p = true →
      exec (.framingError p) s = .next { s with links := s.links.set p { s.link p with rx := .hunt, gap := none } }) ∧
    (∀ left, (s.link p).gap = some left →
      exec (.gapTimerExpiry p) s = .next { s with links := s.links.set p { s.link p with rx := .hunt, gap := none } }) ∧
    ((s.link p).gap = none → exec (.gapTimerExpiry p) s = .next s)

/-- A whole good frame addressed to the device, received character by character from HUNT, does what the request command
that stands for it does, on the state whose reception has gone through that frame. That a request command stands for a
whole frame, and that the receive buffer keeps the frame's characters after HUNT, are the model's choices (notes/assumptions
1 and 39). -/
def Obligations.FrameReceivedIsRequest : Prop :=
  ∀ (c : Instr) (p : Port) (k : Kind) (seq : Byte) (payload : List Byte) (s : State) (len high low : Byte),
    requestOf c = some (p, k, seq, payload) →
    receives s p = true → (s.link p).rx = .hunt → 1 ≤ s.address → s.address ≤ 31 →
    payload.length + 2 ≤ 250 → len = BitVec.ofNat 8 (payload.length + 2) →
    (crcOf (BitVec.ofNat 8 s.address :: len :: kindCode k :: seq :: payload)).toNat = high.toNat * 256 + low.toNat →
    ∃ t, exec c (s.updLink p fun l => { l with
            buffer := BitVec.ofNat 8 s.address :: len :: kindCode k :: seq :: (payload ++ [high]), gap := none }) = .next t ∧
      ((0xC3#8 :: BitVec.ofNat 8 s.address :: len :: kindCode k :: seq :: (payload ++ [high, low])).foldl
          (fun x ch => match x with
            | .next y => exec (.characterArrival p ch) y
            | other => other)
          (.next s : Host.Outcome State Fault Refusal)) = .next t

/-- FRAME_COMPLETE at a port that awaits the last character of a frame. A wrong CRC or a foreign address discards the frame;
a frame for the device wakes the supply; one with a kind alone, or with the form of a response, is then discarded; one with
a kind outside the table is answered UNKNOWN; and one with a kind of the table is served as its request command is. In each
case reception is in HUNT with the gap timer cancelled. That a request command stands for a whole frame, and that the
receive buffer keeps its characters after HUNT, are the model's choices (notes/assumptions 1 and 39). -/
def Obligations.FrameJudgement : Prop :=
  ∀ (p : Port) (addr len high low kind seq : Byte) (payload body : List Byte) (s : State),
    receives s p = true → (s.link p).rx = .check → (s.link p).buffer = addr :: len :: (body ++ [high]) →
    body.length = len.toNat →
    let s1 := s.updLink p fun l => { l with rx := .hunt, gap := none }
    let good := (crcOf (addr :: len :: body)).toNat = high.toNat * 256 + low.toNat
    let ours := s.address ≠ 0 ∧ addr.toNat = s.address
    (¬ good → exec (.frameComplete p low) s = .next s1) ∧
    (good → ¬ ours → exec (.frameComplete p low) s = .next s1) ∧
    (good → ours → body = [kind] → exec (.frameComplete p low) s = .next (wake s1)) ∧
    (good → ours → body = kind :: seq :: payload → kind.msb = true →
      exec (.frameComplete p low) s = .next (wake s1)) ∧
    (good → ours → body = kind :: seq :: payload → kind.msb = false → (∀ k, kindCode k ≠ kind) → owes s p = false →
      exec (.frameComplete p low) s = .next (answerOn p kind seq .unknown .none [0] (wake s1))) ∧
    (∀ c k, good → ours → body = kind :: seq :: payload → kind = kindCode k → requestOf c = some (p, k, seq, payload) →
      ∃ t, exec c s1 = .next t ∧ exec (.frameComplete p low) s = .next t)

/-- A response formed is sent: RESPONSE_START begins it, enabling the line driver on the station port alone, where nothing
is then received; RESPONSE_SENT ends it, and the port owes nothing. Nothing but the port's link unit changes. That station
reception goes to HUNT at RESPONSE_START with its gap timer cancelled, and that panel reception goes on, is deduced
(notes/assumptions 38); that a start is taken whenever a response is formed, whatever is left of its delay, is the model's
choice (notes/assumptions 40), and so is that the receive buffer stays as it was (notes/assumptions 39). -/
def Obligations.ResponseSending : Prop :=
  ∀ (p : Port) (s : State) (r : HeldRequest) (frame : List Byte),
    ((s.link p).request = some r → r.progress = .ready frame →
      ∃ t, exec (.responseStart p) s = .next t ∧ t = { s with links := s.links.set p (t.link p) } ∧
        (t.link p).request = some { r with progress := .sending frame } ∧ (t.link p).delay = none ∧
        (t.link p).notices = (s.link p).notices ∧ (t.link p).buffer = (s.link p).buffer ∧ owes t p = true ∧
        (p = .station → t.stationDriver = true ∧ receives t .station = false ∧ (t.link p).rx = .hunt ∧
          (t.link p).gap = none) ∧
        (p = .panel → t.stationDriver = s.stationDriver ∧ receives t .panel = s.started ∧ (t.link p).rx = (s.link p).rx ∧
          (t.link p).gap = (s.link p).gap)) ∧
    ((s.link p).request = some r → r.progress = .sending frame →
      ∃ t, exec (.responseSent p) s = .next t ∧
        t = { s with links := s.links.set p { s.link p with request := none } } ∧ owes t p = false ∧
        (p = .station → t.stationDriver = false ∧ receives t .station = s.started))

/-- READ NOTICES, from either port whoever holds the seat: the response carries the port's own notice set as the event
leaves it before the read, in the characters of R189, an empty set as an empty set with DONE, and that set is then empty, so
that the port's attention line is inactive; the other port's set is not touched, and a flag set by a later event stays set. -/
def Obligations.ReadNotices : Prop :=
  ∀ (p : Port) (seq : Byte) (s : State), s.takes p →
    ∃ t, exec (.readNotices p seq []) s = .next t ∧
      t.answered p .readNotices seq .done (noticeRecord ((wake s).link p).notices) ∧
      (let n := ((wake s).link p).notices
       let gates := [Gate.g1, .g2, .g3, .g4, .g5, .g6]
       noticeRecord n = char1 (bitsOf (gates.map n.outcome.get)) ++ char1 (bitsOf (gates.map n.fault.get)) ++
         char1 (bitsOf [n.isolation, n.supply, n.store])) ∧
      (t.link p).notices = .none ∧ t.attention p = false ∧
      (∀ q, q ≠ p → (t.link q).notices = ((wake s).link q).notices ∧ t.attention q = (wake s).attention q) ∧
      t.gates = s.gates ∧ t.store = s.store ∧ t.arbiter = s.arbiter ∧ Spared (some p) s t ∧
      (∀ f, ((raiseNotice f t).link p).notices = f .none)

/-! ### Reads -/

/-- READ CLOCK, READ LEVELS, READ SUPPLY and IDENTIFY answer DONE with the values as they stand, from either port in every
supply state, and change nothing but the answer and the wake of their frame. Each field of the levels record, of the supply
record and of the identity record stands at its offset with its code; the levels, the agreed levels and the head are stated
where they fit their field of two characters (a value that does not is free, notes/assumptions 13), and so is a holder's
rank where it has an order in force or is in TRIM (free otherwise, notes/assumptions 12). The wait list stands in rank order. -/
def Obligations.ReadsOfTheDevice : Prop :=
  ∀ (p : Port) (seq : Byte) (s : State), s.takes p →
    exec (.readClock p seq []) s = .next (answerOn p 0x49 seq .done .none
      [BitVec.ofNat 8 (s.clock.value / 16777216), BitVec.ofNat 8 (s.clock.value / 65536),
       BitVec.ofNat 8 (s.clock.value / 256), BitVec.ofNat 8 s.clock.value, if s.clock.isSet then 1 else 0] (wake s)) ∧
    exec (.readLevels p seq []) s = .next (answerOn p 0x40 seq .done .none (levelsRecord s.measure) (wake s)) ∧
    (let x := levelsRecord s.measure
     let m := s.measure
     let quality (q : Quality) : List Byte := char1 ([Quality.good, .single, .disputed, .lost].idxOf q)
     let gauge (k : Nat) (y : GaugeMeas) : Prop :=
       fieldAt x k (chars2 y.raw.toNat ++ char1 ([Standing.unread, .valid, .invalid].idxOf y.standing)) ∧
         (fits16 y.level → fieldAt x (k + 3) (chars2s y.level))
     x.length = 29 ∧ gauge 0 m.gauges.up.a ∧ gauge 5 m.gauges.up.b ∧ gauge 10 m.gauges.down.a ∧ gauge 15 m.gauges.down.b ∧
       (fits16 m.sides.up.agreed → fieldAt x 20 (chars2s m.sides.up.agreed)) ∧ fieldAt x 22 (quality m.sides.up.quality) ∧
       (fits16 m.sides.down.agreed → fieldAt x 23 (chars2s m.sides.down.agreed)) ∧
       fieldAt x 25 (quality m.sides.down.quality) ∧ (fits16 m.head → fieldAt x 26 (chars2s m.head)) ∧
       fieldAt x 28 [if m.headDisputed then 1 else 0]) ∧
    exec (.readSupply p seq []) s =
      .next (answerOn p 0x51 seq .done .none (supplyRecord (wake s) s.supply.st) (wake s)) ∧
    (let x := supplyRecord (wake s) s.supply.st
     let y := (wake s).supply
     let states := [SupplyState.run, .parking, .parked, .waking]
     let left := if y.st = .parking ∨ y.st = .waking then y.phase else none
     x.length = 11 + 4 * s.arbiter.holders.length + 2 * s.arbiter.waiters.length ∧
       fieldAt x 0 (char1 (states.idxOf s.supply.st)) ∧ fieldAt x 1 (char1 (states.idxOf y.st)) ∧
       fieldAt x 2 (char1 (bitsOf [y.source == .battery, s.lines.mainsOk, y.driveSupply, left.isSome])) ∧
       fieldAt x 3 (chars2 (left.getD 0)) ∧ fieldAt x 5 (char1 s.arbiter.limit) ∧
       fieldAt x 6 (char1 s.settings.site.limitMains) ∧ fieldAt x 7 (char1 s.settings.site.limitBattery) ∧
       fieldAt x 8 (char1 ([ResetCause.power, .brownout, .pin].idxOf y.cause)) ∧
       fieldAt x 9 (char1 s.arbiter.holders.length) ∧ fieldAt x 10 (char1 s.arbiter.waiters.length) ∧
       (∀ i < s.arbiter.holders.length, ∀ h, s.arbiter.holders[i]? = some h →
         fieldAt x (11 + 4 * i) (char1 (gateNumber h.gate) ++ char1 (gateStates.idxOf (s.gate h.gate).st)) ∧
         ((s.gate h.gate).st = .trim → fieldAt x (11 + 4 * i + 2) (char1 3)) ∧
         (∀ o, (s.gate h.gate).st ≠ .trim → s.orderInForce h.gate = some o →
           fieldAt x (11 + 4 * i + 2) (char1 (classes.idxOf o.cls))) ∧
         fieldAt x (11 + 4 * i + 3) [if h.named then 1 else 0]) ∧
       (waitList s).Perm s.arbiter.waiters ∧
       (s.arbiter.waiters.Nodup → (waitList s).Pairwise fun a b => s.slotRank b < s.slotRank a ∨
         s.slotRank b = s.slotRank a ∧ s.arbiter.waiters.idxOf a < s.arbiter.waiters.idxOf b) ∧
       (∀ i < s.arbiter.waiters.length, ∀ g, (waitList s)[i]? = some g →
         fieldAt x (11 + 4 * s.arbiter.holders.length + 2 * i) (char1 (gateNumber g) ++
           char1 (match s.orderInForce g with | some o => classes.idxOf o.cls | none => 3)))) ∧
    ∃ straps lines flags,
      exec (.identify p seq []) s = .next (answerOn p 0x71 seq .done .none
        [0x02, 0x64, 1, BitVec.ofNat 8 s.address, straps, lines, flags, BitVec.ofNat 8 s.liveCount,
          BitVec.ofNat 8 s.store.sets.length] (wake s)) ∧
      straps = BitVec.ofNat 8 s.baud ∧
      (lines.getLsbD 0 = (p == .panel) ∧ lines.getLsbD 1 = (s.seat == .panel) ∧ lines.getLsbD 2 = s.lines.localKey ∧
        lines.getLsbD 3 = s.lines.estop ∧ lines.getLsbD 4 = s.lines.mainsOk) ∧
      (flags.getLsbD 0 = s.nvs.settingsLost ∧ flags.getLsbD 1 = s.isolations.doubt ∧
        flags.getLsbD 2 = s.clock.isSet)

/-- The reads of one gate, by its number 1 to 6, and BAD_GATE for any other number; the reads of an order, of a set, of the
isolation table and of a setting, by theirs, with NO_ORDER, NO_SET, BAD_FIELD or BAD_GATE where it names nothing. A position
or load pair is read with presence 1, or as five zeros while it is unset. None changes anything but the answer and the wake
of its frame. Each field of the gate record, the order record, the set record, the last-outcome record, the hoists record
and the isolation list stands at its offset with its code, and as zeros where it is absent; a signed field is stated where
its value fits two characters (a value that does not is free, notes/assumptions 13), and a wait list place where no gate
waits twice. -/
def Obligations.ReadsByNumber : Prop :=
  ∀ (p : Port) (seq c a b : Byte) (s : State), s.takes p →
    (∀ g, gateOf c.toNat = some g →
      exec (.readGate p seq [c]) s = .next (answerOn p 0x20 seq .done .none (gateRecord s g) (wake s)) ∧
      exec (.readOutcome p seq [c]) s =
        .next (answerOn p 0x21 seq .done .none (outcomeRecord (s.gate g).outcome) (wake s)) ∧
      exec (.readHoists p seq [c]) s =
        .next (answerOn p 0x41 seq .done .none (hoistRecord s g .left ++ hoistRecord s g .right) (wake s))) ∧
    (∀ g,
      let x := gateRecord s g
      let q := s.gate g
      let o := s.orderInForce g
      let left := if q.st ∈ [GateState.releasing, .reversing, .stopping] then q.phaseTimer else none
      let ahead (h : Gate) : Bool := decide (s.slotRank g < s.slotRank h) ||
        (s.slotRank g == s.slotRank h && decide (s.arbiter.waiters.idxOf h < s.arbiter.waiters.idxOf g))
      let hoist (h : Hoist) : List Byte :=
        char1 (if h.brake then 1 else 0) ++ char1 ([Direction.neither, .raise, .lower].idxOf h.dir) ++ chars2 h.duty
      x.length = 32 + 3 * min 8 (s.queue g).length ∧ fieldAt x 0 (char1 (gateStates.idxOf q.st)) ∧
        fieldAt x 1 (char1 (bitsOf [o.isSome, left.isSome, q.st == .stopping, q.fault.isSome,
          q.fault.any fun r => r.second.isSome])) ∧
        fieldAt x 2 (char1 (bitsOf [s.holdAll, s.isolated g, q.st == .waitGrant && q.link.isNone])) ∧
        fieldAt x 3 (match o with
          | some o => chars2 o.number ++ char1 (classes.idxOf o.cls) ++ char1 (bitsOf o.holds.bits)
          | none => [0, 0, 0, 0]) ∧
        fieldAt x 7 (char1 (if g ∈ s.holderGates then 1 else if g ∈ s.arbiter.waiters then 2 else 0)) ∧
        (s.arbiter.waiters.Nodup → fieldAt x 8 (char1
          (if g ∈ s.arbiter.waiters then (s.arbiter.waiters.filter ahead).length + 1 else 0))) ∧
        fieldAt x 9 (chars2 (left.getD 0)) ∧
        fieldAt x 11 (char1 (if q.st = .stopping then gateStates.idxOf (match o with
          | some o => if o.state = .held then .held else .waitGrant
          | none => .idle) else 0)) ∧
        (fits16 q.vPrev → fieldAt x 12 (chars2s q.vPrev)) ∧ fieldAt x 14 (char1 q.settle) ∧
        fieldAt x 15 (hoist q.hoists.left) ∧ fieldAt x 19 (hoist q.hoists.right) ∧
        fieldAt x 23 (char1 (s.queue g).length) ∧
        fieldAt x 24 (match q.fault with
          | some r => char1 (faultKinds.idxOf r.kind) ++ char1 ([Designation.left, .right, .both].idxOf r.hoist + 1) ++
              char1 r.further ++ chars4 (r.second.getD 0)
          | none => [0, 0, 0, 0, 0, 0, 0]) ∧
        fieldAt x 31 (char1 (min 8 (s.queue g).length)) ∧
        (∀ i < 8, ∀ o, (s.queue g)[i]? = some o →
          fieldAt x (32 + 3 * i) (chars2 o.number ++ char1 (orderStates.idxOf o.state)))) ∧
    (∀ g,
      let x := outcomeRecord (s.gate g).outcome
      x.length = 14 ∧ ((s.gate g).outcome = none → ∀ y ∈ x, y = 0) ∧
      (∀ r, (s.gate g).outcome = some r →
        fieldAt x 0 (char1 1) ∧ fieldAt x 1 (chars2 r.number) ∧ fieldAt x 3 (chars2 r.tag) ∧
        fieldAt x 5 (char1 (classes.idxOf r.cls)) ∧ fieldAt x 6 (char1 (outcomes.idxOf r.outcome)) ∧
        fieldAt x 7 (char1 (bitsOf [r.second.isSome, r.mean.isSome])) ∧ fieldAt x 8 (chars4 (r.second.getD 0)) ∧
        (fits16 (r.mean.getD 0) → fieldAt x 12 (chars2s (r.mean.getD 0))))) ∧
    (∀ g d,
      let x := hoistRecord s g d
      let m := s.hoistMeas g d
      let sound := geometryValid (s.geo g)
      let present := sound && m.position.isSome
      let position := if sound then m.position.getD 0 else 0
      x.length = 11 ∧ fieldAt x 0 (chars2 m.posRaw.toNat) ∧ fieldAt x 2 (chars2 m.loadRaw.toNat) ∧
        (fits16 position → fieldAt x 4 (chars2s position)) ∧
        fieldAt x 6 (char1 (bitsOf [present, present && m.posValid, sound && m.outOfBounds, m.loadStanding == .valid])) ∧
        fieldAt x 7 (chars2 m.load) ∧ fieldAt x 9 (char1 m.overload) ∧ fieldAt x 10 (char1 m.slack)) ∧
    (c.toNat = 0 ∨ 6 < c.toNat →
      exec (.readGate p seq [c]) s = .next (answerOn p 0x20 seq .badGate .none [0] (wake s)) ∧
      exec (.readOutcome p seq [c]) s = .next (answerOn p 0x21 seq .badGate .none [0] (wake s)) ∧
      exec (.readHoists p seq [c]) s = .next (answerOn p 0x41 seq .badGate .none [0] (wake s))) ∧
    (∀ g o, s.findOrder (a.toNat * 256 + b.toNat) = some (g, o) →
      let x := orderRecord g o (eligible s o) (placeIn (fun x => x.number == o.number) (s.queue g))
      let start : List Byte := match o.start with
        | .immediate => [0, 0, 0, 0, 0, 0]
        | .atTime at_ => [1, 0] ++ chars4 at_
        | .level dir side l => [match dir with | .rise => 2 | .fall => 3, match side with | .up => 0 | .down => 1] ++
            chars4 (l % 4294967296).toNat
      let level := match o.start with | .level _ _ _ => o.state == .queued | _ => false
      exec (.readOrder p seq [a, b]) s = .next (answerOn p 0x17 seq .done .none x (wake s)) ∧
        x.length = 28 ∧ fieldAt x 0 (chars2 o.number) ∧ fieldAt x 2 (char1 (gateNumber g)) ∧
        fieldAt x 3 (char1 (classes.idxOf o.cls)) ∧ fieldAt x 4 (char1 (orderStates.idxOf o.state)) ∧
        fieldAt x 5 (char1 (bitsOf [o.rate.isSome, o.guard.isSome, o.deadline.isSome, o.setNo.isSome])) ∧
        fieldAt x 6 (char1 (bitsOf o.holds.bits)) ∧
        fieldAt x 7 (char1 (bitsOf [o.originator == .panel, eligible s o, level && !o.armed, level && o.armed])) ∧
        (fits16 o.target → fieldAt x 8 (chars2s o.target)) ∧ fieldAt x 10 (chars2 (o.rate.getD 0)) ∧
        fieldAt x 12 start ∧ (fits16 (o.guard.getD 0) → fieldAt x 18 (chars2s (o.guard.getD 0))) ∧
        fieldAt x 20 (chars4 (o.deadline.getD 0)) ∧ fieldAt x 24 (chars2 o.tag) ∧ fieldAt x 26 (char1 (o.setNo.getD 0)) ∧
        fieldAt x 27 (char1 (((s.queue g).takeWhile fun y => y.number != o.number).length + 1))) ∧
    ((∀ x ∈ s.liveOrders, x.2.number ≠ a.toNat * 256 + b.toNat) →
      exec (.readOrder p seq [a, b]) s = .next (answerOn p 0x17 seq .noOrder .none [0] (wake s))) ∧
    (∀ r, s.findSet c.toNat = some r →
      let x := setRecord s r
      exec (.readSet p seq [c]) s = .next (answerOn p 0x19 seq .done .none x (wake s)) ∧
        fieldAt x 0 (char1 r.number ++ char1 (bitsOf [r.joint, r.allReady, r.broken]) ++ char1 r.members.length) ∧
        ((∀ n ∈ r.members, ∃ y ∈ s.liveOrders, y.2.number = n) → x.length = 3 + 4 * r.members.length ∧
          ∀ i < r.members.length, ∀ n, r.members[i]? = some n → ∀ y, s.findOrder n = some y →
            fieldAt x (3 + 4 * i) (chars2 n ++ char1 (gateNumber y.1) ++ char1 (orderStates.idxOf y.2.state)))) ∧
    ((∀ r ∈ s.store.sets, r.number ≠ c.toNat) →
      exec (.readSet p seq [c]) s = .next (answerOn p 0x19 seq .noSet .none [0] (wake s))) ∧
    (1 ≤ c.toNat → c.toNat ≤ 24 →
      let x := isolationList s c.toNat
      let from_ := s.isolations.entries.drop (c.toNat - 1)
      exec (.listIsolations p seq [c]) s = .next (answerOn p 0x32 seq .done .none x (wake s)) ∧
        x.length = 4 + 9 * min 12 from_.length ∧
        fieldAt x 0 (char1 (bitsOf [s.isolations.doubt, s.nvs.isolationJob,
          match s.nvs.flight with | some (.isolation _) => true | _ => false, decide (12 < from_.length)])) ∧
        fieldAt x 1 (char1 s.isolations.entries.length) ∧
        fieldAt x 2 (char1 (bitsOf ([Gate.g1, .g2, .g3, .g4, .g5, .g6].map s.isolated))) ∧
        fieldAt x 3 (char1 (min 12 from_.length)) ∧
        (∀ i < 12, ∀ e, from_[i]? = some e →
          fieldAt x (4 + 9 * i) (char1 (c.toNat + i) ++
            char1 (match e.scope with | .gate g => gateNumber g | .site => 7) ++ chars2 e.crew ++
            char1 (bitsOf [e.port == .panel, e.second.isSome, e.kept]) ++ chars4 (e.second.getD 0)))) ∧
    (c.toNat = 0 ∨ 24 < c.toNat →
      exec (.listIsolations p seq [c]) s = .next (answerOn p 0x32 seq .badField .none [0] (wake s))) ∧
    (∀ x, settingOf a.toNat b.toNat = .ok x →
      exec (.getSetting p seq [a, b]) s = .next (answerOn p 0x61 seq .done .none (settingRecord s.settings x) (wake s))) ∧
    (∀ g d, a = 33 ∨ a = 36 → b.toNat = 2 * gateNumber g - (match d with | .left => 1 | .right => 0) →
      exec (.getSetting p seq [a, b]) s = .next (answerOn p 0x61 seq .done .none
        (match if a = 33 then (s.geo g).posCal.get d else (s.geo g).loadCal.get d with
          | some x => [1, BitVec.ofNat 8 (x.c0 / 256), BitVec.ofNat 8 x.c0, BitVec.ofNat 8 (x.c1 / 256), BitVec.ofNat 8 x.c1]
          | none => [0, 0, 0, 0, 0]) (wake s))) ∧
    (∀ e, settingOf a.toNat b.toNat = .error e →
      exec (.getSetting p seq [a, b]) s = .next (answerOn p 0x61 seq e .none [0] (wake s)))

/-- LIST ORDERS answers at most eight live orders that match its masks and lie above its number, in ascending order of
number; a matching order it leaves out lies above all of them, and the response then says that more match. With the order
numbers distinct it lists no order twice, and says that more match only where a matching order is left out. Each summary's
fields stand at their offsets with their codes. That the order is the ascending one of R54, and not the rank order R42 names,
is the model's choice (notes/assumptions 45). -/
def Obligations.ListOrdersInOrder : Prop :=
  ∀ (p : Port) (seq gates states classes a b : Byte) (s : State), s.takes p →
    let fits (x : Gate × Order) : Prop :=
      gates.getLsbD (gateNumber x.1 - 1) = true ∧ states.getLsbD (orderStateCode x.2.state) = true ∧
        classes.getLsbD (classRank x.2.cls) = true ∧ a.toNat * 256 + b.toNat < x.2.number
    ∃ (l : List (Gate × Order)) (more : Bool),
      exec (.listOrders p seq [gates, states, classes, a, b]) s = .next (answerOn p 0x18 seq .done .none
        (BitVec.ofNat 8 l.length :: (if more then 1 else 0) :: l.flatMap fun x => orderSummary x.1 x.2) (wake s)) ∧
      l.length ≤ 8 ∧ l.Pairwise (fun x y => x.2.number ≤ y.2.number) ∧
      (∀ x ∈ l, let y := orderSummary x.1 x.2
        y.length = 10 ∧ fieldAt y 0 (chars2 x.2.number ++ char1 (gateNumber x.1) ++
          char1 ([OrderClass.routine, .tidal, .release].idxOf x.2.cls) ++ char1 (orderStates.idxOf x.2.state) ++ char1 (x.2.setNo.getD 0)) ∧
        (fits16 x.2.target → fieldAt y 6 (chars2s x.2.target)) ∧ fieldAt y 8 (chars2 x.2.tag)) ∧
      (∀ x ∈ l, x ∈ s.liveOrders ∧ fits x) ∧
      (∀ x ∈ s.liveOrders, fits x → x ∉ l → more = true ∧ l.length = 8 ∧ ∀ y ∈ l, y.2.number ≤ x.2.number) ∧
      (s.numbersDistinct → l.Nodup ∧
        (more = true → ∃ x ∈ s.liveOrders, fits x ∧ x ∉ l ∧ ∀ y ∈ l, y.2.number < x.2.number))

/-- No read shows an isolation code: with every code of the table replaced by any others, every read request answers the
same, and leaves a state that differs in those codes alone. -/
def Obligations.ReadsNeverShowCodes : Prop :=
  ∀ (c : Instr) (p : Port) (k : Kind) (seq : Byte) (payload : List Byte) (f : IsoEntry → Nat) (s : State),
    requestOf c = some (p, k, seq, payload) →
    k ∈ [Kind.readOrder, .listOrders, .readSet, .readGate, .readOutcome, .listIsolations, .readLevels, .readHoists,
      .readClock, .readSupply, .getSetting, .readNotices, .identify] →
    ∃ t, exec c s = .next t ∧ exec c (s.recode f) = .next (t.recode f)

/-! ### Settings (11) -/

/-- PUT SETTING of an item that is not a gate's geometry stores the value limited to the item's range, answers CLAMPED
exactly where that differs from the value given, and changes no other item. A tuning item, 40 to 57: a raised breakaway duty
lifts the duties of the gate's hoists to it. The drive limits K_m and K_b: the one of the source in RUN acts at once on the
limit. The economy cap, the hysteresis, the agreement tolerance, the head band table, the gauge calibrations and the channel
windows are stored and act where they are next read. A table with too many entries is refused MALFORMED, one with two equal
thresholds and a calibration of too short a span BAD_FIELD. Deduced are that spans are tested on the clamped codes
(notes/assumptions 24), that sorting a head band table is no clamp (26), and that a fall of the limit marks the holders
already in STOPPING as named for reclaim (22). -/
def Obligations.PutTuningOrSiteItem : Prop :=
  ∀ (p : Port) (seq item index : Byte) (s : State), s.serves p .putSetting →
    let put (value : List Byte) : Instr := .putSetting p seq (item :: index :: value)
    let status (clamped : Bool) : Status := if clamped then .clamped else .done
    let flag (clamped : Bool) : List Byte := [if clamped then 1 else 0]
    let stores (value : List Byte) (site : SiteSettings) (clamped : Bool) : Prop :=
      exec (put value) s = .next (answerOn p 0x60 seq (status clamped) .none (flag clamped)
        { wake s with settings := { s.settings with site := site } })
    let refused (value : List Byte) (st : Status) : Prop :=
      exec (put value) s = .next (answerOn p 0x60 seq st .none [0] (wake s))
    let tuning : List (TuneItem × Nat × Nat) :=
      [(.kp, 1, 255), (.ks, 0, 255), (.deadBand, 5, 200), (.settleCount, 1, 15), (.accel, 10, 2000), (.skewTrip, 20, 500),
       (.corrCap, 0, 1000), (.breakaway, 0, 300), (.stepPeriod, 50, 400), (.liftTime, 50, 1000), (.setTime, 50, 1000),
       (.dwellTime, 100, 2000), (.trimSpeed, 100, 1000), (.overload, 100, 2000), (.slack, 0, 1000), (.filter, 1, 8),
       (.stallSteps, 5, 50), (.stallDistance, 5, 100)]
    (∀ (i : Nat) (x : TuneItem) (least most : Nat) (g : Gate) (hi lo : Byte),
      tuning[i]? = some (x, least, most) → item.toNat = 40 + i → gateOf index.toNat = some g →
      let given := hi.toNat * 256 + lo.toNat
      let stored := max least (min most (if x = .stepPeriod then given / 50 * 50 else given))
      ∃ t, exec (put [hi, lo]) s = .next t ∧ (t.tune g).get x = stored ∧
        t.answered p .putSetting seq (status (stored != given)) (flag (stored != given)) ∧
        (∀ h y, (h, y) ≠ (g, x) → (t.tune h).get y = (s.tune h).get y) ∧
        (∀ h, t.geo h = s.geo h) ∧ t.settings.site = s.settings.site ∧
        t.store = s.store ∧ t.arbiter = s.arbiter ∧ t.supply = (wake s).supply ∧ t.isolations = s.isolations ∧
        t.nvs = s.nvs ∧
        (∀ h, { t.gate h with hoists := (s.gate h).hoists } = s.gate h) ∧
        (∀ h d, ((t.gate h).hoists.get d).brake = ((s.gate h).hoists.get d).brake ∧
          ((t.gate h).hoists.get d).dir = ((s.gate h).hoists.get d).dir ∧
          ((t.gate h).hoists.get d).duty =
            (let u := ((s.gate h).hoists.get d).duty
             if (h = g ∧ x = .breakaway) ∧ 1 ≤ u ∧ u < stored then stored else u))) ∧
    (∀ n : Byte, index = 0 → item = 2 ∨ item = 3 → s.slotsSound → s.limitHeld →
      let stored := max 1 (min 6 n.toNat)
      let site := if item = 2 then { s.settings.site with limitMains := stored }
        else { s.settings.site with limitBattery := stored }
      let inForce := s.supply.st = .run ∧ s.supply.source = (if item = 2 then .mains else .battery)
      (¬ inForce → stores [n] site (stored != n.toNat)) ∧
      (inForce → s.trimsBare →
        ∃ t, exec (put [n]) s = .next t ∧ t.settings = { s.settings with site := site } ∧
          t.answered p .putSetting seq (status (stored != n.toNat)) (flag (stored != n.toNat)) ∧
          LimitMoves stored s t ∧ t.supply = s.supply ∧ Spared (some p) s { t with settings := s.settings })) ∧
    (∀ a b : Byte, index = 0 →
      let given := a.toNat * 256 + b.toNat
      (item = 4 → stores [a, b] { s.settings.site with economy := max 100 (min 5000 given) }
        (max 100 (min 5000 given) != given)) ∧
      (item = 6 → stores [a, b] { s.settings.site with hysteresis := max 10 (min 500 given) }
        (max 10 (min 500 given) != given)) ∧
      (item = 7 → stores [a, b] { s.settings.site with tolerance := max 20 (min 500 given) }
        (max 20 (min 500 given) != given))) ∧
    (∀ l : List Band, item = 5 → index = 0 → (∀ b ∈ l, b.threshold < 65536 ∧ b.limit < 65536) → l.length < 256 →
      let value := BitVec.ofNat 8 l.length :: l.flatMap fun b =>
        [BitVec.ofNat 8 (b.threshold / 256), BitVec.ofNat 8 b.threshold, BitVec.ofNat 8 (b.limit / 256),
          BitVec.ofNat 8 b.limit]
      let kept := l.map fun b => { threshold := min 20000 b.threshold, limit := max 50 (min 5000 b.limit) : Band }
      (8 < l.length → refused value .malformed) ∧
      (l.length ≤ 8 → ¬ (kept.map fun b => b.threshold).Nodup → refused value .badField) ∧
      (l.length ≤ 8 → (kept.map fun b => b.threshold).Nodup →
        ∃ table : List Band, table.Perm kept ∧ table.Pairwise (fun x y => x.threshold < y.threshold) ∧
          stores value { s.settings.site with bands := table } (kept != l))) ∧
    (∀ (w : Weir) (n : GaugeName) (z0h z0l l0h l0l z1h z1l l1h l1l : Byte), item = 8 →
      index = 1 ∧ w = .up ∧ n = .a ∨ index = 2 ∧ w = .up ∧ n = .b ∨ index = 3 ∧ w = .down ∧ n = .a ∨
        index = 4 ∧ w = .down ∧ n = .b →
      let given : GaugeCal := { z0 := z0h.toNat * 256 + z0l.toNat, l0 := (l0h ++ l0l).toInt,
                                z1 := z1h.toNat * 256 + z1l.toNat, l1 := (l1h ++ l1l).toInt }
      let stored : GaugeCal := { z0 := min 4095 given.z0, l0 := max (-5000) (min 15000 given.l0),
                                 z1 := min 4095 given.z1, l1 := max (-5000) (min 15000 given.l1) }
      let value := [z0h, z0l, l0h, l0l, z1h, z1l, l1h, l1l]
      (stored.z0 < stored.z1 + 1000 → stored.z1 < stored.z0 + 1000 → refused value .badField) ∧
      (stored.z1 + 1000 ≤ stored.z0 ∨ stored.z0 + 1000 ≤ stored.z1 →
        stores value
          { s.settings.site with
            gauges := s.settings.site.gauges.set w ((s.settings.site.gauges.get w).set n stored) }
          (stored != given))) ∧
    (∀ (ch : Channel) (a b c e : Byte), item = 9 → channelOf index.toNat = some ch →
      let given : Window := { low := a.toNat * 256 + b.toNat, high := c.toNat * 256 + e.toNat }
      let stored : Window := { low := min 4095 given.low, high := min 4095 given.high }
      stores [a, b, c, e] { s.settings.site with windows := s.settings.site.windows.set ch stored } (stored != given))

/-- PUT SETTING of a geometry item: the full travel F, a hoist's position pair, Fh, R_g or a hoist's load pair. A pair given
with too short a span is refused BAD_FIELD; on a locked gate the item is refused LOCKED; on a gate that is not IDLE, FAULT
or DISABLED, or has live orders, BUSY; a refusal changes nothing. Otherwise the value is stored, limited to its range, and
nothing else of the settings changes, but that an Fh below a given R_g lowers R_g to it; the answer is CLAMPED exactly where
a stored value differs from the one given or R_g is lowered. A DISABLED gate that the item gives valid geometry enters IDLE,
or FAULT of kind POSITION where a position channel is not valid; a gate that it leaves without valid geometry is DISABLED,
its hoists off and its fault record empty; any other gate keeps its state. No other gate is touched. An item put unset is
stored as unset, its value characters not read. Deduced are that this is no clamp (notes/assumptions 23), and that spans are
tested on the clamped codes (24). -/
def Obligations.PutGeometryItem : Prop :=
  ∀ (p : Port) (seq item index presence a b c e : Byte) (value : List Byte) (g : Gate) (d : Side) (new : Geometry)
    (clamped : Bool) (s : State),
    s.serves p .putSetting → presence = 0 ∨ presence = 1 →
    let old := s.geo g
    let given := a.toNat * 256 + b.toNat
    let unset := presence = 0
    let pair : CodePair := ⟨given, c.toNat * 256 + e.toNat⟩
    let codes : CodePair := ⟨min 4095 pair.c0, min 4095 pair.c1⟩
    let wide := codes.c0 + 1000 ≤ codes.c1 ∨ codes.c1 + 1000 ≤ codes.c0
    let hoist := index.toNat = 2 * gateNumber g - (match d with | .left => 1 | .right => 0)
    let travel := max 1000 (min 15000 given)
    let full := max 200 (min 5000 given)
    let most := max 100 (min (min 5000 (old.fullSpeed.getD 5000)) given)
    let cmd := Instr.putSetting p seq (item :: index :: presence :: value)
    let one := index.toNat = gateNumber g ∧ value = [a, b]
    let two := hoist ∧ value = [a, b, c, e]
    (item = 32 ∧ one ∧ new = { old with fullTravel := if unset then none else some travel } ∧
        clamped = (!decide unset && travel != given)) ∨
      (item = 33 ∧ two ∧ (unset ∨ wide) ∧ new = { old with posCal := old.posCal.set d (if unset then none else some codes) } ∧
        clamped = (!decide unset && codes != pair)) ∨
      (item = 34 ∧ one ∧
        new = (if unset then { old with fullSpeed := none }
          else { old with fullSpeed := some full, maxSpeed := old.maxSpeed.map fun r => min r full }) ∧
        clamped = (!decide unset && (full != given || old.maxSpeed.any fun r => decide (full < r)))) ∨
      (item = 35 ∧ one ∧ new = { old with maxSpeed := if unset then none else some most } ∧
        clamped = (!decide unset && most != given)) ∨
      (item = 36 ∧ two ∧ (unset ∨ wide) ∧
        new = { old with loadCal := old.loadCal.set d (if unset then none else some codes) } ∧
        clamped = (!decide unset && codes != pair)) ∨
      ((item = 33 ∨ item = 36) ∧ two ∧ ¬ unset ∧ ¬ wide) →
    let short := (item = 33 ∨ item = 36) ∧ ¬ unset ∧ ¬ wide
    let refusedWith (st : Status) : Prop := exec cmd s = .next (answerOn p 0x60 seq st .none [0] (wake s))
    (short → refusedWith .badField) ∧
    (¬ short → old.locked = true → refusedWith .locked) ∧
    (¬ short → old.locked = false →
      ((s.gate g).st ≠ .idle ∧ (s.gate g).st ≠ .fault ∧ (s.gate g).st ≠ .disabled) ∨ s.queue g ≠ [] →
      refusedWith .busy) ∧
    (¬ short → old.locked = false → s.queue g = [] → s.quiet →
      (s.gate g).st = .idle ∨ (s.gate g).st = .fault ∨ (s.gate g).st = .disabled →
      ∃ t, exec cmd s = .next t ∧ t.geo g = new ∧
        t.answered p .putSetting seq (if clamped then .clamped else .done) [if clamped then 1 else 0] ∧
        (∀ h, h ≠ g → t.geo h = s.geo h) ∧ (∀ h, t.tune h = s.tune h) ∧ t.settings.site = s.settings.site ∧
        OtherGatesSame g s t ∧ t.queue g = [] ∧ t.arbiter = s.arbiter ∧
        ((s.gate g).st = .disabled → geometryValid new = true → badChannels s g = none →
          (t.gate g).st = .idle ∧ (t.gate g).fault = (s.gate g).fault ∧ (t.gate g).link = none ∧
            (t.gate g).vPrev = 0) ∧
        (∀ x, (s.gate g).st = .disabled → geometryValid new = true → badChannels s g = some x →
          (t.gate g).st = .fault ∧
            (t.gate g).fault = some { kind := .position, hoist := x, second := s.stamp, further := 0 }) ∧
        ((s.gate g).st ≠ .disabled → geometryValid new = false →
          (t.gate g).st = .disabled ∧ (t.gate g).fault = none ∧ (t.gate g).hoists = ⟨.off, .off⟩) ∧
        ((s.gate g).st = .disabled → geometryValid new = false → t.gate g = s.gate g) ∧
        ((s.gate g).st ≠ .disabled → geometryValid new = true → t.gate g = s.gate g))

/-- APPORTION, with its tests in their order after the seat. -/
def Obligations.Apportion : Prop :=
  ∀ (p : Port) (seq : Byte) (payload : List Byte) (s : State), s.takes p →
    (p ≠ s.seat → exec (.apportion p seq payload) s = .next (answerOn p 0x58 seq .noSeat .none [0] (wake s))) ∧
    (p = s.seat → payload.length ≠ 6 →
      exec (.apportion p seq payload) s = .next (answerOn p 0x58 seq .malformed .none [0] (wake s))) ∧
    (∀ q1 q2 q3 q4 q5 q6 : Byte, p = s.seat → payload = [q1, q2, q3, q4, q5, q6] →
      let sum := q1.toNat + q2.toNat + q3.toNat + q4.toNat + q5.toNat + q6.toNat
      ((∃ g, s.queue g ≠ []) →
        exec (.apportion p seq payload) s = .next (answerOn p 0x58 seq .notEmpty .none [0] (wake s))) ∧
      ((∀ g, s.queue g = []) → 48 < sum →
        exec (.apportion p seq payload) s = .next (answerOn p 0x58 seq .badField .none [0] (wake s))) ∧
      ((∀ g, s.queue g = []) → sum ≤ 48 →
        exec (.apportion p seq payload) s = .next (answerOn p 0x58 seq .done .none []
          { wake s with settings := { s.settings with site := { s.settings.site with
              quotas := ⟨q1.toNat, q2.toNat, q3.toNat, q4.toNat, q5.toNat, q6.toNat⟩ } } })))

/-- KEEP SETTINGS, LOCK GEOMETRY and UNLOCK GEOMETRY: BUSY while a settings job is pending or in flight; otherwise the lock
is set or cleared in the working copy, and the request waits on a write of the settings area, which starts at once, with
the working copy as it then stands, where no write is in flight or pending, and is left pending where an isolation write is
in flight. -/
def Obligations.SettingsWriteRequests : Prop :=
  ∀ (p : Port) (seq index : Byte) (g : Gate) (s : State) (c : Instr) (k : Kind) (working : Settings),
    gateOf index.toNat = some g → s.serves p k →
    let locked (v : Bool) : Settings := { s.settings with
      gates := s.settings.gates.set g { s.gateSettings g with geo := { s.geo g with locked := v } } }
    (c = .keepSettings p seq [] ∧ k = .keepSettings ∧ working = s.settings) ∨
      (c = .lockGeometry p seq [index] ∧ k = .lockGeometry ∧ working = locked true) ∨
      (c = .unlockGeometry p seq [index] ∧ k = .unlockGeometry ∧ working = locked false) →
    (s.nvs.settingsJob = true ∨ (∃ im, s.nvs.flight = some (.settings im)) →
      exec c s = .next (answerOn p (kindCode k) seq .busy .none [0] (wake s))) ∧
    (s.nvs.settingsJob = false → s.nvs.isolationJob = false → s.nvs.flight = none →
      ∃ t, exec c s = .next t ∧ t.settings = working ∧ t.waitsFor p k seq true .settings ∧
        t.nvs = { s.nvs with flight := some (.settings working), timer := some 400 } ∧
        t.gates = s.gates ∧ t.store = s.store ∧ t.isolations = s.isolations) ∧
    (∀ im, s.nvs.settingsJob = false → s.nvs.flight = some (.isolation im) →
      ∃ t, exec c s = .next t ∧ t.settings = working ∧ t.waitsFor p k seq false .settings ∧
        t.nvs = { s.nvs with settingsJob := true } ∧
        t.gates = s.gates ∧ t.store = s.store ∧ t.isolations = s.isolations)

/-- The completion of a write, of either area. The area holds the image written on KEPT and nothing good on NOT_KEPT; the
STORE flag is set at both ports; a request that waited on this write is answered with the result; and the next write starts
if a job is pending, the isolation job first. An isolation write marks the entries of its image Kept, or after NOT_KEPT
none; a settings write that is KEPT clears SETTINGS_LOST. A placement and a removal are answered with their count at the
acceptance, a renewal and a confirmation with the count as the table stands; a placement's Kept mark is yes exactly after a
KEPT write that held its entry, and so is a renewal's, which where its entry is gone by then is the model's choice
(notes/assumptions 47 and 48). No gate, order or setting changes. -/
def Obligations.WriteCompletions : Prop :=
  ∀ (kept : Bool) (s : State),
    let image : IsoImage :=
      { entries := s.isolations.entries.map fun e => e.toIsoRecord, doubt := s.isolations.doubt }
    (∀ im, s.nvs.flight = some (.isolation im) →
      let mark (k : Nat) : Byte := if kept && im.entries.any fun x => x.placement == k then 1 else 0
      let answer (what : Waiting) : List Byte := match what with
        | .placement n k => [BitVec.ofNat 8 n, 0, mark k]
        | .renewal k => [BitVec.ofNat 8 s.isolations.entries.length, 1, mark k]
        | .removal n => [BitVec.ofNat 8 n]
        | .confirmation => [BitVec.ofNat 8 s.isolations.entries.length]
        | .settings => []
      ∃ t, exec (.isolationWriteComplete kept) s = .next t ∧
        t.nvs.isolationArea = (if kept then some im else none) ∧ t.nvs.settingsArea = s.nvs.settingsArea ∧
        t.nvs.settingsLost = s.nvs.settingsLost ∧
        t.isolations = { s.isolations with entries := s.isolations.entries.map fun e => { e with
          kept := kept && (e.kept || im.entries.any fun x => x.placement == e.placement) } } ∧
        (∀ q, (t.link q).notices = { (s.link q).notices with store := true }) ∧
        (∀ q r what, (s.link q).request = some r → r.progress = .waiting true what → waitsOnSettings what = false →
          (t.link q).request = some { r with progress := .ready (responseFrame s.address r.kind r.seq .done
            (if kept then .kept else .notKept) (answer what)) }) ∧
        (s.nvs.isolationJob = true → t.nvs.isolationJob = false ∧ t.nvs.timer = some 40 ∧
          t.nvs.flight = some (.isolation image)) ∧
        (s.nvs.isolationJob = false → s.nvs.settingsJob = true → t.nvs.settingsJob = false ∧ t.nvs.timer = some 400 ∧
          t.nvs.flight = some (.settings s.settings)) ∧
        (s.nvs.isolationJob = false → s.nvs.settingsJob = false → t.nvs.flight = none ∧ t.nvs.timer = none) ∧
        t.gates = s.gates ∧ t.store = s.store ∧ t.settings = s.settings ∧ t.supply = s.supply) ∧
    (∀ st, s.nvs.flight = some (.settings st) →
      ∃ t, exec (.settingsWriteComplete kept) s = .next t ∧
        t.nvs.settingsArea = (if kept then some st else none) ∧ t.nvs.isolationArea = s.nvs.isolationArea ∧
        t.nvs.settingsLost = (s.nvs.settingsLost && !kept) ∧ t.isolations = s.isolations ∧
        (∀ q, (t.link q).notices = { (s.link q).notices with store := true }) ∧
        (∀ q r, (s.link q).request = some r → r.progress = .waiting true .settings →
          (t.link q).request = some { r with progress := .ready (responseFrame s.address r.kind r.seq .done
            (if kept then .kept else .notKept) []) }) ∧
        (s.nvs.isolationJob = true → t.nvs.isolationJob = false ∧ t.nvs.timer = some 40 ∧
          t.nvs.flight = some (.isolation image)) ∧
        (s.nvs.isolationJob = false → s.nvs.settingsJob = true → t.nvs.settingsJob = false ∧ t.nvs.timer = some 400 ∧
          t.nvs.flight = some (.settings s.settings)) ∧
        (s.nvs.isolationJob = false → s.nvs.settingsJob = false → t.nvs.flight = none ∧ t.nvs.timer = none) ∧
        t.gates = s.gates ∧ t.store = s.store ∧ t.settings = s.settings ∧ t.supply = s.supply)

/-! ### Orders (02, 03) -/

/-- A PLACE ORDER that passes its tests with its start unmet is accepted QUEUED. It takes the first number at or after the
next-number counter that no live order has, and the next acceptance sequence; its record holds what the placement gives,
with target, rate and raise guard limited to their ranges; and it stands behind every order of its class or a higher one
and ahead of the rest. No gate, no other queue and no set is touched. -/
def Obligations.PlaceOrderQueued : Prop :=
  ∀ (p : Port) (seq : Byte) (payload : List Byte) (pl : Placement) (g : Gate) (c : OrderClass) (start : Start) (s : State),
    s.serves p .placeOrder → whole takePlacement payload = some pl → pl.replace = false →
    gateOf pl.gate = some g → (s.gate g).st ≠ .disabled → classOf pl.cls = some c → startOf pl = some start →
    start ≠ .immediate → (∀ at_, start = .atTime at_ → s.clock.isSet = true ∧ s.clock.value < at_) →
    (∀ d, pl.deadline = some d → s.clock.isSet = true ∧ s.clock.value < d) →
    (s.queue g).length < s.settings.site.quotas.get g →
    s.quotasHeld → s.numbersDistinct → s.queuesRanked → s.quiet → s.store.acceptCount < 4294967295 →
    ∃ (t : State) (n i : Nat) (flags : Byte) (o : Order),
      exec (.placeOrder p seq payload) s = .next t ∧
      n = Nat.repeat (fun x => if x = 65535 then 1 else x + 1) i s.store.nextNumber ∧
      (∀ j, j < i → ∃ x ∈ s.liveOrders,
        x.2.number = Nat.repeat (fun x => if x = 65535 then 1 else x + 1) j s.store.nextNumber) ∧
      (∀ x ∈ s.liveOrders, x.2.number ≠ n) ∧
      o = { number := n, cls := c, target := max 0 (min (s.fullTravel g : Int) pl.target),
            rate := pl.rate.map fun r => max 50 (min (s.maxSpeed g) r), start := start, armed := false,
            guard := pl.guard.map fun x => max (-20000) (min 20000 x), deadline := pl.deadline, tag := pl.tag.getD 0,
            originator := p, setNo := none, state := .queued, holds := .none, sequence := s.store.acceptCount + 1 } ∧
      t.queue g = (s.queue g).filter (fun x => decide (classRank c ≤ classRank x.cls)) ++
        o :: (s.queue g).filter (fun x => decide (classRank x.cls < classRank c)) ∧
      (∀ h, h ≠ g → t.queue h = s.queue h) ∧
      t.store.nextNumber = (if n = 65535 then 1 else n + 1) ∧ t.store.acceptCount = s.store.acceptCount + 1 ∧
      t.store.sets = s.store.sets ∧ t.store.nextSet = s.store.nextSet ∧
      t.gates = s.gates ∧ t.arbiter = s.arbiter ∧ t.supply = (wake s).supply ∧ Spared (some p) s t ∧
      t.answered p .placeOrder seq (if flags = 0 then .done else .clamped)
        [BitVec.ofNat 8 (n / 256), BitVec.ofNat 8 n, 0, flags, 0] ∧
      (flags.getLsbD 0 = (o.target != pl.target) ∧ flags.getLsbD 1 = (o.rate != pl.rate) ∧
        flags.getLsbD 2 = (o.guard != pl.guard) ∧
        flags.getLsbD 3 = (match start with | .level _ _ l => l != signed32 pl.startParam | _ => false))

/-- An IMMEDIATE order that takes force in the event of its placement. On an IDLE gate with an empty queue and no gate
waiting: a hoist out of bounds faults the gate LIMIT and the order retires FAULTED; on an isolated gate, or under the
hold-all flag, the order is HELD for those reasons and the gate is in HELD; otherwise, with both positions valid and in the
dead band of the target, the order retires ARRIVED and the gate stays IDLE; else the order is IN_FORCE, and the gate holds a
slot in RELEASING where one is free, and waits in WAIT_GRANT where none is; no other gate is touched. Over an order in force
of lower class it is a preemption: the old order is READY again with an empty hold set, the new one is linked with its hold
set formed afresh, the settle counter is 0, and the previous demand and the stall window are kept; a moving gate runs on, or
stops where the new hold set is not empty; a gate in WAIT_GRANT stays or is granted, or goes to HELD; a gate in HELD asks for
a slot, or stays; and a hoist out of bounds faults the gate LIMIT and the new order alone retires. -/
def Obligations.PlaceOrderTakesForce : Prop :=
  ∀ (p : Port) (seq : Byte) (payload : List Byte) (pl : Placement) (g : Gate) (c : OrderClass) (s : State),
    s.serves p .placeOrder → whole takePlacement payload = some pl →
    gateOf pl.gate = some g → classOf pl.cls = some c → startOf pl = some .immediate →
    (∀ d, pl.deadline = some d → s.clock.isSet = true ∧ s.clock.value < d) →
    s.quotasHeld → s.numbersDistinct → s.quiet → s.store.acceptCount < 4294967295 →
    let st := (s.gate g).st
    let target := max 0 (min (s.fullTravel g : Int) pl.target)
    let near (d : Side) : Prop :=
      ∃ x, validPosition s g d = some x ∧ (target - x).natAbs ≤ (s.tune g).deadBand
    let held := s.isolated g = true ∨ s.holdAll = true
    let placed (n : Nat) : Order :=
      { number := n, cls := c, target := target, rate := pl.rate.map fun r => max 50 (min (s.maxSpeed g) r),
        start := .immediate, armed := false, guard := pl.guard.map fun x => max (-20000) (min 20000 x),
        deadline := pl.deadline, tag := pl.tag.getD 0, originator := p, setNo := none,
        state := if s.isolated g || s.holdAll then .held else .inForce,
        holds := { isolated := s.isolated g, all := s.holdAll, head := false, group := false, seat := false },
        sequence := s.store.acceptCount + 1 }
    let record (n : Nat) (out : Outcome) : OutcomeRec :=
      { number := n, tag := pl.tag.getD 0, cls := c, outcome := out, second := s.stamp, mean := meanPosition s g }
    (st = .idle → s.queue g = [] → 0 < s.settings.site.quotas.get g → s.arbiter.waiters = [] →
      ∃ (t : State) (n : Nat) (out : Outcome),
        exec (.placeOrder p seq payload) s = .next t ∧ OtherGatesSame g s t ∧ Spared (some p) s t ∧
        (∀ x ∈ s.liveOrders, x.2.number ≠ n) ∧ t.store.acceptCount = s.store.acceptCount + 1 ∧
        (∀ d, boundsFault s g = some d →
          t.queue g = [] ∧ (t.gate g).st = .fault ∧ (t.gate g).link = none ∧
          (t.gate g).fault = some { kind := .limit, hoist := d, second := s.stamp, further := 0 } ∧ out = .faulted) ∧
        (boundsFault s g = none → ¬ held → near .left ∧ near .right →
          t.queue g = [] ∧ (t.gate g).st = .idle ∧ (t.gate g).link = none ∧ t.arbiter = s.arbiter ∧ out = .arrived) ∧
        ((boundsFault s g ≠ none ∨ ¬ held ∧ near .left ∧ near .right) →
          (t.gate g).outcome = some (record n out) ∧ ∀ q, (t.link q).notices.outcome.get g = true) ∧
        (boundsFault s g = none → held ∨ ¬ (near .left ∧ near .right) →
          (t.gate g).link = some n ∧ t.orderInForce g = some (placed n)) ∧
        (boundsFault s g = none → held → (t.gate g).st = .held ∧ t.arbiter = s.arbiter) ∧
        (boundsFault s g = none → ¬ held → ¬ (near .left ∧ near .right) →
          s.arbiter.holders.length < s.arbiter.limit →
          (t.gate g).st = .releasing ∧ (t.gate g).hoists = s.liftedHoists g ∧
          (t.gate g).phaseTimer = some (s.tune g).liftTime ∧ t.arbiter.waiters = [] ∧
          t.arbiter.holders = s.arbiter.holders ++ [{ gate := g, named := false }]) ∧
        (boundsFault s g = none → ¬ held → ¬ (near .left ∧ near .right) →
          s.arbiter.limit ≤ s.arbiter.holders.length →
          (t.gate g).st = .waitGrant ∧ (t.gate g).hoists = ⟨.off, .off⟩ ∧ t.arbiter.waiters = [g] ∧
          t.arbiter.holders = s.arbiter.holders)) ∧
    (∀ cur, s.orderInForce g = some cur → classRank cur.cls < classRank c → pl.replace = false →
      (s.queue g).length < s.settings.site.quotas.get g → s.queuesRanked →
      (∀ o ∈ s.queue g, classRank c ≤ classRank o.cls → eligible s o = false) →
      let moving := st = .releasing ∨ st = .travel ∨ st = .reversing
      let arrives := ¬ moving ∧ ¬ held ∧ near .left ∧ near .right
      moving ∨ st = .waitGrant ∨ st = .held →
      ∃ (t : State) (n : Nat), exec (.placeOrder p seq payload) s = .next t ∧ Spared (some p) s t ∧
        (∀ h, h ≠ g → t.queue h = s.queue h) ∧ (∀ x ∈ s.liveOrders, x.2.number ≠ n) ∧
        (∀ d, boundsFault s g = some d →
          (t.gate g).st = .fault ∧ (t.gate g).link = none ∧ (t.gate g).outcome = some (record n .faulted) ∧
          (t.gate g).fault = some { kind := .limit, hoist := d, second := s.stamp, further := 0 } ∧
          t.queue g = (s.queue g).map fun o =>
            if o.number = cur.number then { o with state := .ready, holds := .none } else o) ∧
        (boundsFault s g = none → arrives → ∀ x ∈ t.liveOrders, x.2.number ≠ n) ∧
        (boundsFault s g = none → ¬ arrives →
          (t.queue g).filter (fun o => o.number != n) = ((s.queue g).map fun o =>
            if o.number = cur.number then { o with state := .ready, holds := .none } else o) ∧
          (t.gate g).link = some n ∧ t.orderInForce g = some (placed n) ∧
          (t.gate g).settle = 0 ∧ (t.gate g).vPrev = (s.gate g).vPrev ∧ (t.gate g).window = (s.gate g).window ∧
          (moving → ¬ held → t.gate g = { s.gate g with link := some n, settle := 0 }) ∧
          (moving → held → (t.gate g).st = .stopping ∧ (t.gate g).hoists = ⟨.off, .off⟩ ∧
            (t.gate g).phaseTimer = some (s.tune g).setTime) ∧
          (moving → OtherGatesSame g s t ∧ t.arbiter = s.arbiter) ∧
          (¬ moving → held → (t.gate g).st = .held ∧ OtherGatesSame g s t ∧ t.arbiter.holders = s.arbiter.holders ∧
            (st = .waitGrant → t.arbiter.waiters = s.arbiter.waiters.filter (· != g)) ∧
            (st = .held → t.arbiter.waiters = s.arbiter.waiters)) ∧
          (¬ moving → ¬ held →
            ((t.gate g).st = .waitGrant ∨ (t.gate g).st = .releasing) ∧
            (s.arbiter.limit ≤ s.arbiter.holders.length →
              (t.gate g).st = .waitGrant ∧ OtherGatesSame g s t ∧ t.arbiter.holders = s.arbiter.holders ∧
              (st = .waitGrant → t.arbiter.waiters = s.arbiter.waiters) ∧
              (st = .held → t.arbiter.waiters = s.arbiter.waiters ++ [g])))))

/-- The refusals of a PLACE ORDER after the seat, each with the code of the first test that fails. A refusal changes nothing
but the answer and the wake of its frame. -/
def Obligations.PlaceOrderRefusals : Prop :=
  ∀ (p : Port) (seq : Byte) (payload : List Byte) (s : State), s.serves p .placeOrder →
    let refusedWith (st : Status) : Prop :=
      exec (.placeOrder p seq payload) s = .next (answerOn p 0x10 seq st .none [0] (wake s))
    (payload.length < 11 → refusedWith .malformed) ∧
    (whole takePlacement payload = none → refusedWith .malformed) ∧
    (∀ pl, whole takePlacement payload = some pl →
      (pl.gate = 0 ∨ 6 < pl.gate → refusedWith .badGate) ∧
      (∀ g, gateOf pl.gate = some g →
        ((s.gate g).st = .disabled → refusedWith .gateDisabled) ∧
        ((s.gate g).st ≠ .disabled →
          (2 < pl.cls ∨ 3 < pl.startKind ∨ (2 ≤ pl.startKind ∧ 1 < pl.startSide) → refusedWith .badField) ∧
          (∀ c, classOf pl.cls = some c → pl.startKind ≤ 3 → (2 ≤ pl.startKind → pl.startSide ≤ 1) →
            (s.clock.isSet = false → pl.startKind = 1 ∨ pl.deadline ≠ none → refusedWith .clockUnset) ∧
            (∀ d, s.clock.isSet = true → pl.deadline = some d → d ≤ s.clock.value → refusedWith .tooLate) ∧
            (s.clock.isSet = true ∨ pl.startKind ≠ 1 ∧ pl.deadline = none →
              (∀ d, pl.deadline = some d → s.clock.value < d) →
              s.settings.site.quotas.get g ≤ (s.queue g).length -
                (if pl.replace then ((s.queue g).filter fun o => decide (classRank o.cls ≤ classRank c)).length else 0) →
              refusedWith .queueFull)))))

/-- An accepted PLACE ORDER with Replace leaves no order of the gate at or below the new order's class but the new one; where
none of the gate's orders belongs to a set, no other queue is touched. Where moreover the gate does not take an order in the
same event (it is in STOPPING, TRIM or FAULT; or it moves for a superseded order, and so goes to STOPPING; or it keeps an
order in force of a higher class, none of them eligible; or it is IDLE, the new order's start not met, and no higher order
eligible), exactly the superseded orders leave: their count is in the response, the last of them in queue order is the
gate's last-outcome record, SUPERSEDED, the orders of higher class stay as they were with the new order behind them, and no
other gate is touched. -/
def Obligations.ReplaceSupersedes : Prop :=
  ∀ (p : Port) (seq : Byte) (payload : List Byte) (pl : Placement) (j : Judged) (s : State),
    s.serves p .placeOrder → whole takePlacement payload = some pl → pl.replace = true →
    judgePlacement s (fun _ => false) pl = .ok j →
    s.quotasHeld → s.numbersDistinct → s.queuesRanked → s.quiet →
    let g := j.gate
    let st := (s.gate g).st
    let gone := (s.queue g).filter fun o => decide (classRank o.cls ≤ classRank j.cls)
    let spared := (s.queue g).filter fun o => decide (classRank j.cls < classRank o.cls)
    let noSets := (∀ o ∈ s.queue g, o.setNo = none) ∧ s.store.acceptCount < 4294967295
    let moving := st = .releasing ∨ st = .travel ∨ st = .reversing
    let losesForce := ∃ cur ∈ gone, s.orderInForce g = some cur
    let keepsForce := ∃ cur ∈ spared, s.orderInForce g = some cur
    let noneEligible := ∀ o ∈ spared, eligible s o = false
    ∃ (t : State) (n : Nat),
      exec (.placeOrder p seq payload) s = .next t ∧
      (∀ o ∈ t.queue g, o.number = n ∨ classRank j.cls < classRank o.cls) ∧
      (∀ h, h ≠ g → List.Sublist ((t.queue h).map fun o => o.number) ((s.queue h).map fun o => o.number)) ∧
      (gone ≠ [] → ∀ q, (t.link q).notices.outcome.get g = true) ∧
      (noSets → ∀ h, h ≠ g → t.queue h = s.queue h) ∧
      (noSets →
        (st = .stopping ∨ st = .trim ∨ st = .fault) ∨ (moving ∧ losesForce) ∨
          ((moving ∨ st = .waitGrant ∨ st = .held) ∧ keepsForce ∧ noneEligible) ∨
          (st = .idle ∧ (s.gate g).link = none ∧ noneEligible ∧ stateAtAcceptance s j.start = .queued) →
        OtherGatesSame g s t ∧ t.arbiter = s.arbiter ∧
        (∃ o, t.queue g = spared ++ [o] ∧ o.number = n ∧ o.cls = j.cls ∧ o.start = j.start ∧
          o.state = stateAtAcceptance s j.start ∧ o.originator = p ∧ o.setNo = none) ∧
        (∀ front last, gone = front ++ [last] → (t.gate g).outcome = some
          { number := last.number, tag := last.tag, cls := last.cls, outcome := .superseded, second := s.stamp,
            mean := meanPosition s g }) ∧
        (gone = [] → (t.gate g).outcome = (s.gate g).outcome) ∧
        (moving ∧ losesForce →
          (t.gate g).st = .stopping ∧ (t.gate g).link = none ∧ (t.gate g).hoists = ⟨.off, .off⟩ ∧
          (t.gate g).phaseTimer = some (s.tune g).setTime) ∧
        (losesForce → (t.gate g).link = none) ∧
        (¬ losesForce → t.gate g = { s.gate g with outcome := (t.gate g).outcome }) ∧
        (¬ moving → (t.gate g).st = st) ∧
        ∃ status state flags, t.answered p .placeOrder seq status
          [BitVec.ofNat 8 (n / 256), BitVec.ofNat 8 n, state, flags, BitVec.ofNat 8 gone.length])

/-- PLACE SET is all or none. The first member that fails its tests refuses the whole with its code and its place, and so
does a full set table with 0; nothing is stored. A set that passes is accepted: it takes a number no live set has, its
record lists the members' numbers in gate order, with the all-ready mark exactly where every member is READY, and the
response gives its number and each member's number, state and clamp flags. Where it has no joint start, or every member is
READY, each READY member takes force on its gate, here IDLE with nothing else to hold it: IN_FORCE, in RELEASING or waiting
in WAIT_GRANT; its QUEUED members stay. Where a joint start waits for a member, no gate moves, for no member is eligible.
At a later tick that leaves a member QUEUED, the READY members wait on; at the tick that makes the last of them READY, the
mark is seen and every member takes force together (stated with the members alone on IDLE gates, and no deadline reached). -/
def Obligations.PlaceSetAllOrNone : Prop :=
  ∀ (p : Port) (seq : Byte) (payload : List Byte) (sp : SetPlacement) (s : State),
    let near (g : Gate) (target : Int) (d : Side) : Prop :=
      ∃ x, validPosition s g d = some x ∧ (target - x).natAbs ≤ (s.tune g).deadBand
    let clear (g : Gate) (target : Int) : Prop :=
      (s.gate g).st = .idle ∧ s.isolated g = false ∧ s.holdAll = false ∧ boundsFault s g = none ∧
        ¬ (near g target .left ∧ near g target .right)
    (s.serves p .placeSet → readSetPlacement payload = some sp →
      (24 ≤ s.store.sets.length →
        exec (.placeSet p seq payload) s = .next (answerOn p 0x11 seq .tableFull .none [0] (wake s))) ∧
      (∀ (before after : List Placement) (pl : Placement) (gs : List Gate) (e : Status),
        s.store.sets.length < 24 → sp.members = before ++ pl :: after → gs.length = before.length →
        (∀ k x, before[k]? = some x →
          ∃ j, judgePlacement s (fun g => x.replace || (gs.take k).contains g) x = .ok j ∧ gs[k]? = some j.gate) →
        judgePlacement s (fun g => pl.replace || gs.contains g) pl = .error e →
        exec (.placeSet p seq payload) s =
          .next (answerOn p 0x11 seq e .none [BitVec.ofNat 8 (before.length + 1)] (wake s))) ∧
      (∀ js : List (Judged × Placement),
        s.store.sets.length < 24 → judgeMembers s 1 [] sp.members = .ok js →
        s.quotasHeld → s.numbersDistinct → s.setsSound → s.quiet → s.store.acceptCount + js.length < 4294967295 →
        let ready (x : Judged × Placement) : Prop := stateAtAcceptance s x.1.start = .ready
        let target (x : Judged × Placement) : Int := max 0 (min (s.fullTravel x.1.gate : Int) x.2.target)
        let acts := sp.joint = false ∨ ∀ x ∈ js, ready x
        (acts → ∀ x ∈ js, ready x → s.queue x.1.gate = [] ∧ clear x.1.gate (target x)) →
        ∃ (t : State) (r : SetRec) (given : List (Nat × Byte)),
          exec (.placeSet p seq payload) s = .next t ∧ Spared (some p) s t ∧
          t.store.sets = s.store.sets ++ [r] ∧ (∀ x ∈ s.store.sets, x.number ≠ r.number) ∧ r.joint = sp.joint ∧
          (r.allReady = true ↔ ∀ x ∈ js, ready x) ∧ r.broken = false ∧ given.length = js.length ∧
          r.members = [Gate.g1, .g2, .g3, .g4, .g5, .g6].flatMap (fun g =>
            ((given.zip js).filter fun y => y.2.1.gate == g).map fun y => y.1.1) ∧
          t.answered p .placeSet seq (if ∀ y ∈ given, y.2 = 0 then .done else .clamped)
            (BitVec.ofNat 8 r.number :: (given.zip js).flatMap fun y =>
              chars2 y.1.1 ++ char1 (orderStates.idxOf (stateAtAcceptance s y.2.1.start)) ++ [y.1.2]) ∧
          t.store.acceptCount = s.store.acceptCount + js.length ∧
          (∀ y ∈ given.zip js, ∃ o ∈ t.queue y.2.1.gate,
            o.number = y.1.1 ∧ o.setNo = some r.number ∧ o.cls = y.2.1.cls ∧ o.start = y.2.1.start ∧ o.originator = p ∧
            o.target = target y.2 ∧ o.holds = .none ∧ (∀ x ∈ s.liveOrders, x.2.number ≠ o.number) ∧
            y.1.2.getLsbD 0 = (o.target != y.2.2.target) ∧ y.1.2.getLsbD 1 = (o.rate != y.2.2.rate) ∧
            y.1.2.getLsbD 2 = (o.guard != y.2.2.guard) ∧
            (acts → ready y.2 → o.state = .inForce ∧ t.orderInForce y.2.1.gate = some o ∧
              ((t.gate y.2.1.gate).st = .waitGrant ∨ (t.gate y.2.1.gate).st = .releasing) ∧
              (s.arbiter.limit ≤ s.arbiter.holders.length → (t.gate y.2.1.gate).st = .waitGrant)) ∧
            (¬ (acts ∧ ready y.2) → o.state = stateAtAcceptance s y.2.1.start ∧ eligible t o = false)) ∧
          (¬ acts → t.gates = s.gates ∧ t.arbiter = s.arbiter) ∧
          (∀ g, (∀ x ∈ js, x.1.gate = g → ¬ (acts ∧ ready x)) → g ∉ s.arbiter.waiters → t.gate g = s.gate g) ∧
          (∀ g, (t.queue g).length = (s.queue g).length + (js.filter fun x => x.1.gate == g).length))) ∧
    (∀ r ∈ s.store.sets, r.joint = true → r.allReady = false → r.broken = false → s.clock.second ≠ none →
      s.quotasHeld → s.numbersDistinct → s.setsSound → s.linksSound → s.quiet →
      let value := if s.clock.value = 4294967295 then 0 else s.clock.value + 1
      let reached (o : Order) : Prop := o.state = .queued ∧ ∃ at_, o.start = .atTime at_ ∧ at_ ≤ value
      let member (g : Gate) (o : Order) : Prop := o ∈ s.queue g ∧ o.setNo = some r.number
      s.clock.value ≤ 4294967295 → (∀ x ∈ s.liveOrders, ∀ d, x.2.deadline = some d → value < d) →
      ∃ t, exec .tick s = .next t ∧
        ((∃ g o, member g o ∧ o.state = .queued ∧ ¬ reached o) →
          t.findSet r.number = some r ∧ ∀ g o, member g o → o.state = .queued ∨ o.state = .ready → ∃ o' ∈ t.queue g,
            o'.number = o.number ∧ o'.fixed = o.fixed ∧ (reached o → o'.state = .ready) ∧ (¬ reached o → o' = o)) ∧
        ((∃ g o, member g o ∧ reached o) →
          (∀ g o, member g o → (reached o ∨ o.state = .ready) ∧ o.originator = s.seat ∧ s.queue g = [o] ∧
            clear g o.target) →
          t.findSet r.number = some { r with allReady := true } ∧
          ∀ g o, member g o → (∃ o', t.orderInForce g = some o' ∧ o'.fixed = o.fixed ∧ o'.state = .inForce ∧ o'.holds = .none) ∧
            ((t.gate g).st = .waitGrant ∨ (t.gate g).st = .releasing)))

/-- AMEND ORDER. An order not in force takes its new fields, limited to their ranges, and nothing else changes. An order in
force takes them too; a new target clears the settle counter; a new target, or a new or removed raise guard, removes HEAD,
and where HEAD was its one reason the order is IN_FORCE again and a gate in HELD asks for a slot. A number that is not
live, a field that cannot be amended and a deadline that is not ahead of the clock are refused with nothing changed. -/
def Obligations.AmendOrder : Prop :=
  ∀ (p : Port) (seq : Byte) (payload : List Byte) (a : Amendment) (s : State),
    s.serves p .amendOrder → whole takeAmendment payload = some a → maskOk a.mask = true →
    let refusedWith (st : Status) : Prop :=
      exec (.amendOrder p seq payload) s = .next (answerOn p 0x12 seq st .none [0] (wake s))
    let amended (g : Gate) (o : Order) : Order :=
      { o with
        target := match a.target with
          | some x => max 0 (min (s.fullTravel g : Int) x)
          | none => o.target
        rate := match a.rate with
          | some x => some (max 50 (min (s.maxSpeed g) x))
          | none => if bitOf a.mask 5 then none else o.rate
        guard := match a.guard with
          | some x => some (max (-20000) (min 20000 x))
          | none => if bitOf a.mask 6 then none else o.guard
        deadline := match a.deadline with
          | some x => some x
          | none => if bitOf a.mask 7 then none else o.deadline
        tag := a.tag.getD o.tag }
    let guardChanged := a.guard.isSome = true ∨ bitOf a.mask 6 = true
    ((∀ x ∈ s.liveOrders, x.2.number ≠ a.number) → refusedWith .noOrder) ∧
    (∀ g o, s.findOrder a.number = some (g, o) →
      (maskForbidden a.mask = true → refusedWith .badField) ∧
      (∀ d, maskForbidden a.mask = false → a.deadline = some d → s.clock.isSet = false → refusedWith .clockUnset) ∧
      (∀ d, maskForbidden a.mask = false → a.deadline = some d → s.clock.isSet = true → d ≤ s.clock.value →
        refusedWith .tooLate) ∧
      (maskForbidden a.mask = false → (∀ d, a.deadline = some d → s.clock.isSet = true ∧ s.clock.value < d) → s.quiet →
        ∃ t status flags, exec (.amendOrder p seq payload) s = .next t ∧ t.answered p .amendOrder seq status [flags] ∧
          Spared (some p) s t ∧ (∀ h, h ≠ g → t.queue h = s.queue h) ∧ t.store.sets = s.store.sets ∧
          t.store.nextNumber = s.store.nextNumber ∧ t.store.acceptCount = s.store.acceptCount ∧
          ((s.gate g).link ≠ some a.number →
            t.queue g = (s.queue g).map (fun x => if x.number = a.number then amended g x else x) ∧
            t.gates = s.gates ∧ t.arbiter = s.arbiter) ∧
          ((s.gate g).link = some a.number →
            ∃ o', t.orderInForce g = some o' ∧ o'.fixed = (amended g o).fixed ∧ o'.armed = o.armed ∧
              (a.target.isSome = true → (t.gate g).settle = 0) ∧
              (a.target.isSome = true ∨ guardChanged → o'.holds = { o.holds with head := false }) ∧
              (¬ (a.target.isSome = true ∨ guardChanged) →
                o'.holds = o.holds ∧ o'.state = o.state ∧ t.gates = s.gates ∧ t.arbiter = s.arbiter) ∧
              (a.target.isSome = true ∨ guardChanged → o.holds = { HoldSet.none with head := true } →
                o'.state = .inForce ∧
                ((s.gate g).st = .held → (t.gate g).st = .waitGrant ∨ (t.gate g).st = .releasing)))))

/-- AMEND BATCH is all or none. The first item that fails its tests refuses the whole with its code and its place, and
nothing is amended; that an item whose change mask is faulty is MALFORMED with its own place is deduced (notes/assumptions
27). Otherwise every item's order takes its new fields, and no order that no item names is changed but in state and hold
set. -/
def Obligations.AmendBatchAllOrNone : Prop :=
  ∀ (p : Port) (seq : Byte) (payload : List Byte) (items : List Amendment) (s : State),
    s.serves p .amendBatch → readAmendments payload = some items → s.numbersDistinct →
    (∀ (before after : List Amendment) (a : Amendment) (e : Status),
      items = before ++ a :: after → (∀ x ∈ before, amendRefusal s x = none) → amendRefusal s a = some e →
      exec (.amendBatch p seq payload) s =
        .next (answerOn p 0x13 seq e .none [BitVec.ofNat 8 (before.length + 1)] (wake s))) ∧
    (∀ (before after : List Amendment) (a : Amendment),
      items = before ++ a :: after → (∀ x ∈ items, amendRefusal s x = none) →
      (before.map fun x => x.number).Nodup → a.number ∈ before.map (fun x => x.number) →
      exec (.amendBatch p seq payload) s =
        .next (answerOn p 0x13 seq .badField .none [BitVec.ofNat 8 (before.length + 1)] (wake s))) ∧
    ((∀ x ∈ items, amendRefusal s x = none) → (items.map fun x => x.number).Nodup →
      ∃ t status flags, exec (.amendBatch p seq payload) s = .next t ∧ t.answered p .amendBatch seq status flags ∧
        flags.length = items.length ∧ Spared (some p) s t ∧
        (∀ g, (t.queue g).map (fun o => o.number) = (s.queue g).map fun o => o.number) ∧
        (∀ x ∈ s.liveOrders, ∃ o ∈ t.queue x.1, o.number = x.2.number ∧ o.cls = x.2.cls ∧ o.start = x.2.start ∧
          o.originator = x.2.originator ∧ o.sequence = x.2.sequence ∧
          ((∀ a ∈ items, a.number ≠ x.2.number) → o.fixed = x.2.fixed) ∧
          (∀ a ∈ items, a.number = x.2.number →
            o.tag = a.tag.getD x.2.tag ∧
            o.target = (match a.target with
              | some y => max 0 (min (s.fullTravel x.1 : Int) y)
              | none => x.2.target) ∧
            o.rate = (match a.rate with
              | some y => some (max 50 (min (s.maxSpeed x.1) y))
              | none => if bitOf a.mask 5 then none else x.2.rate) ∧
            o.guard = (match a.guard with
              | some y => some (max (-20000) (min 20000 y))
              | none => if bitOf a.mask 6 then none else x.2.guard) ∧
            o.deadline = (match a.deadline with
              | some y => some y
              | none => if bitOf a.mask 7 then none else x.2.deadline))) ∧
        t.store.sets = s.store.sets ∧ t.store.nextNumber = s.store.nextNumber ∧
        t.store.acceptCount = s.store.acceptCount)

/-- WITHDRAW ORDER of an order that is in no set: it leaves its queue, and the gate's OUTCOME flag is set at both ports. The
gate's last-outcome record is its record, unless its going lets the gate's next order take force in the same event. An
order not in force leaves its gate alone. A gate moving for the order goes to STOPPING and keeps its slot. A gate that holds
or waits for it, with no other order and both position channels valid, goes to IDLE. In each of these no other gate is
touched. A number that is not live is refused NO_ORDER. -/
def Obligations.WithdrawOrder : Prop :=
  ∀ (p : Port) (seq a b : Byte) (s : State), s.serves p .withdrawOrder →
    let n := a.toNat * 256 + b.toNat
    ((∀ x ∈ s.liveOrders, x.2.number ≠ n) →
      exec (.withdrawOrder p seq [a, b]) s = .next (answerOn p 0x14 seq .noOrder .none [0] (wake s))) ∧
    (∀ g o, s.findOrder n = some (g, o) → o.setNo = none → s.quiet →
      let record : OutcomeRec := { number := n, tag := o.tag, cls := o.cls, outcome := .withdrawn, second := s.stamp,
                                   mean := meanPosition s g }
      ∃ t, exec (.withdrawOrder p seq [a, b]) s = .next t ∧
        t.answered p .withdrawOrder seq .done [BitVec.ofNat 8 (orderStateCode o.state)] ∧
        ((s.gate g).link ≠ some n ∨ ((s.gate g).st ≠ .waitGrant ∧ (s.gate g).st ≠ .held) ∨ s.queue g = [o] →
          (t.gate g).outcome = some record) ∧
        (∀ q, (t.link q).notices.outcome.get g = true) ∧
        t.store.nextNumber = s.store.nextNumber ∧ t.store.acceptCount = s.store.acceptCount ∧ Spared (some p) s t ∧
        ((s.gate g).link ≠ some n →
          t.queue g = (s.queue g).filter (fun x => x.number != n) ∧ t.gate g = { s.gate g with outcome := some record } ∧
          OtherGatesSame g s t ∧ t.arbiter = s.arbiter ∧ t.store.sets = s.store.sets) ∧
        ((s.gate g).link = some n →
          (s.gate g).st = .releasing ∨ (s.gate g).st = .travel ∨ (s.gate g).st = .reversing →
          t.queue g = (s.queue g).filter (fun x => x.number != n) ∧
          t.gate g = { s.gate g with st := .stopping, link := none, hoists := ⟨.off, .off⟩, stepTimer := none,
                                     phaseTimer := some (s.tune g).setTime, trimTimer := none,
                                     outcome := some record } ∧
          OtherGatesSame g s t ∧ t.arbiter = s.arbiter) ∧
        ((s.gate g).link = some n → (s.gate g).st = .waitGrant ∨ (s.gate g).st = .held → s.queue g = [o] →
          badChannels s g = none →
          t.queue g = [] ∧ (t.gate g).st = .idle ∧ (t.gate g).link = none ∧ (t.gate g).vPrev = 0 ∧
          (t.gate g).settle = 0 ∧ (t.gate g).window = none ∧ (t.gate g).hoists = ⟨.off, .off⟩ ∧
          OtherGatesSame g s t ∧ t.arbiter.holders = s.arbiter.holders ∧
          ((s.gate g).st = .waitGrant → t.arbiter.waiters = s.arbiter.waiters.filter (· != g))))

/-- WITHDRAW GATE empties the queue of its gate, STOP ALL and CLEAR STORE every queue; they place and amend nothing, and
leave the numbering counters, the settings, the hold-all flag and the isolations as they were. WITHDRAW GATE touches no other
queue where no order of its gate belongs to a set. Where no live order belongs to a set, a gate moving for an order is left
in STOPPING with its outputs off and no order in force; and on a gate whose going orders leave none to take force in their
place, the last-outcome record names the order that stood at the tail, WITHDRAWN, or CLEARED by CLEAR STORE, and a gate that
held or waited for an order is IDLE with its channels valid. Where that is so of every gate named, the count answered is that
of all their orders, and WITHDRAW GATE touches no other gate. -/
def Obligations.QueuesEmptied : Prop :=
  ∀ (p : Port) (seq index : Byte) (g : Gate) (s : State) (c : Instr) (k : Kind) (gates : List Gate) (out : Outcome),
    gateOf index.toNat = some g → s.serves p k →
    (c = .withdrawGate p seq [index] ∧ k = .withdrawGate ∧ gates = [g] ∧ out = .withdrawn) ∨
      (c = .stopAll p seq [] ∧ k = .stopAll ∧ gates = Gate.all ∧ out = .withdrawn) ∨
      (c = .clearStore p seq [] ∧ k = .clearStore ∧ gates = Gate.all ∧ out = .cleared) →
    let noSets := s.slotsSound ∧ s.numbersDistinct ∧ ∀ h ∈ gates, ∀ o ∈ s.queue h, o.setNo = none
    let calm (h : Gate) : Prop :=
      (s.gate h).st = .waitGrant ∨ (s.gate h).st = .held →
        ∀ o ∈ s.queue h, (s.gate h).link ≠ some o.number → eligible s o = false
    ∃ (t : State) (count : Nat),
      exec c s = .next t ∧ t.answered p k seq .done [BitVec.ofNat 8 count] ∧
      count ≤ (gates.map fun h => (s.queue h).length).sum ∧
      (∀ h ∈ gates, t.queue h = []) ∧ OrdersOnlyLeave s t ∧ Spared (some p) s t ∧
      t.store.nextNumber = s.store.nextNumber ∧ t.store.nextSet = s.store.nextSet ∧
      t.store.acceptCount = s.store.acceptCount ∧
      (∀ h ∈ gates, s.queue h ≠ [] → ∀ q, (t.link q).notices.outcome.get h = true) ∧
      (noSets → ∀ h, h ∉ gates → t.queue h = s.queue h) ∧
      (noSets → (∀ h ∈ gates, calm h) →
        count = (gates.map fun h => (s.queue h).length).sum ∧ ∀ h, h ∉ gates → t.gate h = s.gate h) ∧
      (noSets → ∀ h ∈ gates, calm h →
        (∀ front o, s.queue h = front ++ [o] → (t.gate h).outcome = some
          { number := o.number, tag := o.tag, cls := o.cls, outcome := out, second := s.stamp,
            mean := meanPosition s h }) ∧
        (s.queue h = [] → (t.gate h).outcome = (s.gate h).outcome) ∧
        (∀ o, s.orderInForce h = some o → (s.gate h).st = .waitGrant ∨ (s.gate h).st = .held →
          badChannels s h = none →
          (t.gate h).st = .idle ∧ (t.gate h).link = none ∧ (t.gate h).hoists = ⟨.off, .off⟩ ∧ h ∉ t.arbiter.waiters)) ∧
      (noSets → ∀ h ∈ gates, ∀ o, s.orderInForce h = some o →
        (s.gate h).st = .releasing ∨ (s.gate h).st = .travel ∨ (s.gate h).st = .reversing →
        (t.gate h).st = .stopping ∧ (t.gate h).link = none ∧ (t.gate h).hoists = ⟨.off, .off⟩ ∧
        (t.gate h).phaseTimer = some (s.tune h).setTime)

/-- RELEASE SET of a broken set with no READY member clears its broken mark and removes GROUP from its members in force; a
member held for nothing else is IN_FORCE again, and its gate leaves HELD for WAIT_GRANT or a slot. A set that is not broken
is answered DONE, and a number that names no set NO_SET, with nothing changed. -/
def Obligations.ReleaseSet : Prop :=
  ∀ (p : Port) (seq c : Byte) (s : State), s.serves p .releaseSet →
    ((∀ r ∈ s.store.sets, r.number ≠ c.toNat) →
      exec (.releaseSet p seq [c]) s = .next (answerOn p 0x16 seq .noSet .none [0] (wake s))) ∧
    (∀ r, s.findSet c.toNat = some r → r.broken = false →
      exec (.releaseSet p seq [c]) s = .next (answerOn p 0x16 seq .done .none [] (wake s))) ∧
    (∀ r, s.findSet c.toNat = some r → r.broken = true →
      (∀ x ∈ s.liveOrders, x.2.setNo = some c.toNat → x.2.state ≠ .ready) →
      ∃ t, exec (.releaseSet p seq [c]) s = .next t ∧ t.answered p .releaseSet seq .done [] ∧
        t.store.sets = s.store.sets.map (fun x => if x.number = c.toNat then { x with broken := false } else x) ∧
        Spared (some p) s t ∧
        (∀ g o, s.orderInForce g = some o → o.setNo = some c.toNat →
          ∃ o', t.orderInForce g = some o' ∧ o'.fixed = o.fixed ∧ o'.holds = { o.holds with group := false } ∧
            (o.holds = { HoldSet.none with group := true } →
              o'.state = .inForce ∧
              ((s.gate g).st = .held → (t.gate g).st = .waitGrant ∨ (t.gate g).st = .releasing))) ∧
        (∀ g, s.orderInForce g = none → t.queue g = s.queue g) ∧
        (∀ g o, s.orderInForce g = some o → o.setNo ≠ some c.toNat → t.queue g = s.queue g))

/-! ### Gates (05, 06, 07) -/

/-- CLEAR FAULT. While the cause still stands it is refused CAUSE_PRESENT, and a gate not in FAULT is answered DONE, with
nothing changed. Otherwise the record is emptied and the gate's FAULT flag set at both ports. A gate whose record is not
SKEW, or is SKEW while a position channel is not valid, the gate is isolated or ESTOP is asserted, and which has no eligible
order, enters IDLE, or with a position channel not valid FAULT of kind POSITION. A gate whose record is SKEW, sound, not isolated, with ESTOP released and no gate waiting, enters TRIM where a slot is free and
waits for it in WAIT_GRANT where none is. The response names the state at the end of the event: that a cleared SKEW granted
its slot at once reports TRIM is deduced (notes/assumptions 28). In these two cases no other gate is touched. -/
def Obligations.ClearFault : Prop :=
  ∀ (p : Port) (seq index : Byte) (g : Gate) (s : State), s.serves p .clearFault → gateOf index.toNat = some g →
    ((s.gate g).st ≠ .fault → (s.gate g).fault = none → exec (.clearFault p seq [index]) s =
      .next (answerOn p 0x22 seq .done .none [BitVec.ofNat 8 (gateStateCode (s.gate g).st)] (wake s))) ∧
    (∀ r, (s.gate g).fault = some r →
      (r.kind = .estop ∧ s.lines.estop = true) ∨ (r.kind = .position ∧ badChannels s g ≠ none) →
      exec (.clearFault p seq [index]) s = .next (answerOn p 0x22 seq .causePresent .none [0] (wake s))) ∧
    (∀ r, (s.gate g).st = .fault → (s.gate g).fault = some r → (s.gate g).link = none → s.quiet →
      ¬ (r.kind = .estop ∧ s.lines.estop = true) → ¬ (r.kind = .position ∧ badChannels s g ≠ none) →
      ∃ t, exec (.clearFault p seq [index]) s = .next t ∧
        t.answered p .clearFault seq .done [BitVec.ofNat 8 (gateStateCode (t.gate g).st)] ∧
        (∀ q, (t.link q).notices.fault.get g = true) ∧
        (r.kind ≠ .skew ∨ badChannels s g ≠ none ∨ s.isolated g = true ∨ s.lines.estop = true →
          firstEligible s g = none →
          OtherGatesSame g s t ∧ t.queue g = s.queue g ∧ Spared (some p) s t ∧ t.arbiter = s.arbiter ∧ (t.gate g).hoists = ⟨.off, .off⟩ ∧
          (t.gate g).vPrev = 0 ∧ (t.gate g).settle = 0 ∧ (t.gate g).window = none ∧
          (badChannels s g = none → (t.gate g).st = .idle ∧ (t.gate g).fault = none) ∧
          (∀ d, badChannels s g = some d → (t.gate g).st = .fault ∧
            (t.gate g).fault = some { kind := .position, hoist := d, second := s.stamp, further := 0 })) ∧
        (r.kind = .skew → badChannels s g = none → s.isolated g = false → s.lines.estop = false →
          s.arbiter.waiters = [] →
          OtherGatesSame g s t ∧ Spared (some p) s t ∧ t.queue g = s.queue g ∧ (t.gate g).fault = none ∧
          (t.gate g).link = none ∧
          (s.arbiter.holders.length < s.arbiter.limit →
            (t.gate g).st = .trim ∧ (t.gate g).hoists = ⟨.lifted, .lifted⟩ ∧
            (t.gate g).stepTimer = some (s.tune g).liftTime ∧ (t.gate g).trimTimer = some 30000 ∧
            t.arbiter.waiters = [] ∧ t.arbiter.holders = s.arbiter.holders ++ [{ gate := g, named := false }]) ∧
          (s.arbiter.limit ≤ s.arbiter.holders.length →
            (t.gate g).st = .waitGrant ∧ t.arbiter.waiters = [g] ∧ t.arbiter.holders = s.arbiter.holders)))

/-- RESET GATE, from any state: the queue is emptied, the gate holds no order, no slot and no place on the wait list, its
outputs are off and its motion context is clear. With valid geometry and both position channels valid it is in IDLE without
a fault record, with a position channel not valid in FAULT of kind POSITION, and without valid geometry in DISABLED. The
last-outcome record names the order that stood at the tail, CLEARED. -/
def Obligations.ResetGate : Prop :=
  ∀ (p : Port) (seq index : Byte) (g : Gate) (s : State), s.serves p .resetGate → gateOf index.toNat = some g →
    s.numbersDistinct →
    ∃ (t : State), exec (.resetGate p seq [index]) s = .next t ∧
      t.answered p .resetGate seq .done [BitVec.ofNat 8 (s.queue g).length] ∧
      t.queue g = [] ∧ OrdersOnlyLeave s t ∧ Spared (some p) s t ∧
      (t.gate g).link = none ∧ (t.gate g).hoists = ⟨.off, .off⟩ ∧ (t.gate g).vPrev = 0 ∧ (t.gate g).settle = 0 ∧
      (t.gate g).window = none ∧ (t.gate g).stepTimer = none ∧ (t.gate g).phaseTimer = none ∧
      (t.gate g).trimTimer = none ∧ g ∉ t.holderGates ∧ g ∉ t.arbiter.waiters ∧
      (geometryValid (s.geo g) = false → (t.gate g).st = .disabled ∧ (t.gate g).fault = none) ∧
      (geometryValid (s.geo g) = true → badChannels s g = none → (t.gate g).st = .idle ∧ (t.gate g).fault = none) ∧
      (∀ d, geometryValid (s.geo g) = true → badChannels s g = some d → (t.gate g).st = .fault ∧
        (t.gate g).fault = some { kind := .position, hoist := d, second := s.stamp, further := 0 }) ∧
      ((s.gate g).fault ≠ none → ∀ q, (t.link q).notices.fault.get g = true) ∧
      (∀ front o, s.queue g = front ++ [o] →
        ∃ r, (t.gate g).outcome = some r ∧ r.number = o.number ∧ r.tag = o.tag ∧ r.cls = o.cls ∧ r.outcome = .cleared) ∧
      (s.queue g = [] → (t.gate g).outcome = (s.gate g).outcome) ∧
      t.store.nextNumber = s.store.nextNumber ∧ t.store.acceptCount = s.store.acceptCount

/-- HOLD ALL sets the flag and puts ALL on every order in force: gates moving for one go to STOPPING, gates waiting with one
to HELD, and gates without one are untouched. RELEASE ALL clears the flag and takes ALL off every order in force: one held
for nothing else is IN_FORCE again, and its gate leaves HELD for WAIT_GRANT or a slot. Each answers the count of orders
that gained or lost ALL; one that finds the flag as it would leave it answers 0 and changes nothing. -/
def Obligations.HoldAndReleaseAll : Prop :=
  ∀ (p : Port) (seq : Byte) (s : State),
    (s.takes p → s.holdAll = true →
      exec (.holdAll p seq []) s = .next (answerOn p 0x24 seq .done .none [0] (wake s))) ∧
    (s.takes p → s.holdAll = false → s.quiet →
      ∃ t, exec (.holdAll p seq []) s = .next t ∧ t.holdAll = true ∧ Spared (some p) s { t with holdAll := false } ∧
        t.answered p .holdAll seq .done [BitVec.ofNat 8 (Gate.all.filter fun g => match s.orderInForce g with
          | some o => !o.holds.all
          | none => false).length] ∧
        t.store.sets = s.store.sets ∧ t.arbiter.holders = s.arbiter.holders ∧
        (∀ g, s.orderInForce g = none → t.gate g = s.gate g ∧ t.queue g = s.queue g) ∧
        (∀ g o, s.orderInForce g = some o →
          ∃ o', t.orderInForce g = some o' ∧ o'.fixed = o.fixed ∧ o'.holds = { o.holds with all := true } ∧
            (o.holds.all = false → o'.state = .held ∧
              ((s.gate g).st = .waitGrant → (t.gate g).st = .held ∧ g ∉ t.arbiter.waiters) ∧
              ((s.gate g).st = .releasing ∨ (s.gate g).st = .travel ∨ (s.gate g).st = .reversing →
                (t.gate g).st = .stopping ∧ (t.gate g).hoists = ⟨.off, .off⟩ ∧
                (t.gate g).phaseTimer = some (s.tune g).setTime) ∧
              ((s.gate g).st = .held ∨ (s.gate g).st = .stopping → t.gate g = s.gate g)))) ∧
    (s.serves p .releaseAll → s.holdAll = false →
      exec (.releaseAll p seq []) s = .next (answerOn p 0x25 seq .done .none [0] (wake s))) ∧
    (s.serves p .releaseAll → s.holdAll = true → s.quiet →
      ∃ t, exec (.releaseAll p seq []) s = .next t ∧ t.holdAll = false ∧ Spared (some p) s { t with holdAll := true } ∧
        t.answered p .releaseAll seq .done [BitVec.ofNat 8 (Gate.all.filter fun g => match s.orderInForce g with
          | some o => o.holds.all
          | none => false).length] ∧
        t.store.sets = s.store.sets ∧
        (∀ g, s.orderInForce g = none → t.queue g = s.queue g) ∧
        (∀ g o, s.orderInForce g = some o →
          ∃ o', t.orderInForce g = some o' ∧ o'.fixed = o.fixed ∧ o'.holds = { o.holds with all := false } ∧
            (o.holds = { HoldSet.none with all := true } → o'.state = .inForce ∧
              ((s.gate g).st = .held → (t.gate g).st = .waitGrant ∨ (t.gate g).st = .releasing))))

/-- The ends of a travel step, by the arithmetic of its stages: arrival at the settle count in the dead band; reversal; the
raise guard; the stall judgement; and else a step that hands each hoist its direction and duty and restarts the step
timer. The speed limit is the least of the order's rate or else R_g, R_g, the limit that the head band table gives for the
size of the head (its smallest while the head is disputed), and on BATTERY the economy cap. A step whose demand is 0 leaves
v_prev at 0 and the stall window empty, the step that arrives too; any other opens the window, counts in it or judges it. A
stall faults the gate STALL, and its order leaves FAULTED, with its last-outcome record and the OUTCOME and FAULT flags at
both ports. -/
def Obligations.TravelStepEnds : Prop :=
  ∀ (g : Gate) (o : Order) (pL pR : Int) (left : Nat) (s : State),
    (s.gate g).st = .travel → (s.gate g).stepTimer = some left → s.orderInForce g = some o →
    (s.hoistMeas g .left).position = some pL → (s.hoistMeas g .right).position = some pR →
    o.setNo = none → o.holds.head = false → s.quiet →
    let tu := s.tune g
    let q := s.gate g
    let m := (pL + pR).tdiv 2
    let e := o.target - m
    let inBand := e.natAbs ≤ tu.deadBand
    let top := (s.geo g).maxSpeed.getD (s.fullSpeed g)
    let bands := s.settings.site.bands
    let forHead := if s.measure.headDisputed then ((bands.map fun b => b.limit).min?).getD top
      else (((bands.filter fun b => decide (b.threshold ≤ s.measure.head.natAbs)).getLast?).map fun b => b.limit).getD top
    let most := min (o.rate.getD top) (min top forHead)
    let vmax : Int := ((if s.supply.source = .battery then min most s.settings.site.economy else most : Nat) : Int)
    let vLim := max (-vmax) (min vmax ((tu.kp * e).tdiv 16))
    let turns := 0 < q.vPrev ∧ vLim < 0 ∨ q.vPrev < 0 ∧ 0 < vLim
    let rise := ((q.vPrev.natAbs + tu.accel : Nat) : Int)
    let v := if inBand then 0 else if rise < vLim.natAbs then (if vLim < 0 then -rise else rise) else vLim
    let guarded := 0 < v ∧ ∃ x, o.guard = some x ∧ (s.measure.head < x ∨ s.measure.headDisputed = true)
    let arrives := inBand ∧ tu.settleCount ≤ q.settle + 1
    let reachesSkew := ¬ arrives ∧ (inBand ∨ ¬ turns ∧ ¬ guarded)
    let stalls := v ≠ 0 ∧ ∃ w, q.window = some w ∧ tu.stallSteps ≤ w.count + 1 ∧ (m - w.ref).natAbs < tu.stallDistance
    let c := if v = 0 then 0 else max (-(tu.corrCap : Int)) (min tu.corrCap ((tu.ks * (pL - pR)).tdiv 16))
    let speed (x : Int) : Int :=
      max (-(s.fullSpeed g : Int)) (min (s.fullSpeed g) (if 0 < v then max x 0 else if v < 0 then min x 0 else x))
    let raw (x : Int) : Nat := min 1000 (((speed x).natAbs * 1000 + s.fullSpeed g / 2) / s.fullSpeed g)
    let duty (x : Int) : Nat := if 1 ≤ raw x ∧ raw x < tu.breakaway then tu.breakaway else raw x
    let driven (x : Int) (h : Hoist) : Prop :=
      h.brake = true ∧ h.duty = (if speed x = 0 then 0 else duty x) ∧
        (h.dir = .raise ↔ 0 < speed x ∧ duty x ≠ 0) ∧ (h.dir = .lower ↔ speed x < 0 ∧ duty x ≠ 0)
    ∃ t, exec (.travelStep g) s = .next t ∧ Spared none s t ∧
      (arrives →
        t.queue g = (s.queue g).filter (fun x => x.number != o.number) ∧ (t.gate g).st = .stopping ∧
        (t.gate g).link = none ∧ (t.gate g).hoists = ⟨.off, .off⟩ ∧ (t.gate g).phaseTimer = some tu.setTime ∧
        (t.gate g).vPrev = 0 ∧ (t.gate g).window = none ∧ (t.gate g).settle = tu.settleCount ∧
        (t.gate g).outcome = some { number := o.number, tag := o.tag, cls := o.cls, outcome := .arrived,
                                    second := s.stamp, mean := meanPosition s g } ∧
        OtherGatesSame g s t ∧ t.arbiter = s.arbiter) ∧
      (¬ inBand → turns →
        t.gate g = { q with st := .reversing, settle := 0, hoists := ⟨.off, .off⟩, stepTimer := none,
                            phaseTimer := some tu.dwellTime, trimTimer := none } ∧
        t.queue g = s.queue g ∧ OtherGatesSame g s t ∧ t.arbiter = s.arbiter) ∧
      (¬ inBand → ¬ turns → guarded →
        (t.gate g).st = .stopping ∧ (t.gate g).hoists = ⟨.off, .off⟩ ∧ (t.gate g).vPrev = q.vPrev ∧
        t.orderInForce g = some { o with state := .held, holds := { o.holds with head := true } } ∧
        OtherGatesSame g s t ∧ t.arbiter = s.arbiter) ∧
      (reachesSkew → (pL - pR).natAbs ≤ tu.skewTrip → stalls →
        (t.gate g).st = .fault ∧ (t.gate g).hoists = ⟨.off, .off⟩ ∧ (t.gate g).link = none ∧ g ∉ t.holderGates ∧
        (t.gate g).fault = some { kind := .stall, hoist := .both, second := s.stamp, further := 0 } ∧
        t.queue g = (s.queue g).filter (fun x => x.number != o.number) ∧
        (t.gate g).outcome = some { number := o.number, tag := o.tag, cls := o.cls, outcome := .faulted,
                                    second := s.stamp, mean := meanPosition s g } ∧
        ∀ n, (t.link n).notices.outcome.get g = true ∧ (t.link n).notices.fault.get g = true) ∧
      (reachesSkew → (pL - pR).natAbs ≤ tu.skewTrip → ¬ stalls →
        (t.gate g).st = .travel ∧ (t.gate g).vPrev = v ∧ (t.gate g).stepTimer = some tu.stepPeriod ∧
        (t.gate g).settle = (if inBand then min (q.settle + 1) tu.settleCount else 0) ∧ (t.gate g).link = q.link ∧
        (t.gate g).window = (if v = 0 then none else match q.window with
          | none => some { ref := m, count := 1 }
          | some w => if w.count + 1 < tu.stallSteps then some { w with count := w.count + 1 }
            else some { ref := m, count := 1 }) ∧
        t.queue g = s.queue g ∧ OtherGatesSame g s t ∧ t.arbiter = s.arbiter ∧
        ((s.inhibited g = false ∧ q.hoists.left.brake = true ∧ q.hoists.right.brake = true →
          driven (v - c) (t.gate g).hoists.left ∧ driven (v + c) (t.gate g).hoists.right)) ∧
        (s.inhibited g = true → (t.gate g).hoists = ⟨.off, .off⟩))

/-- The skew test of stage 6. At a travel step that reaches it (at rest in the dead band short of the settle count, or
outside the band with neither a reversal nor the raise guard before it) a skew above S puts the gate in FAULT of kind SKEW,
naming BOTH, with its outputs off; a skew of exactly S or less, and a step that does not reach the test, raise no SKEW. The
step's speed limit is formed as in TravelStepEnds. A step whose demand is 0, from the dead band or from a raw demand of 0,
leaves v_prev at 0 and the stall window empty here too. -/
def Obligations.SkewTest : Prop :=
  ∀ (g : Gate) (o : Order) (pL pR : Int) (left : Nat) (s : State),
    (s.gate g).st = .travel → (s.gate g).stepTimer = some left → s.orderInForce g = some o →
    (s.hoistMeas g .left).position = some pL → (s.hoistMeas g .right).position = some pR →
    (s.gate g).fault = none →
    let tu := s.tune g
    let e := o.target - (pL + pR).tdiv 2
    let top := (s.geo g).maxSpeed.getD (s.fullSpeed g)
    let bands := s.settings.site.bands
    let forHead := if s.measure.headDisputed then ((bands.map fun b => b.limit).min?).getD top
      else (((bands.filter fun b => decide (b.threshold ≤ s.measure.head.natAbs)).getLast?).map fun b => b.limit).getD top
    let most := min (o.rate.getD top) (min top forHead)
    let vmax : Int := ((if s.supply.source = .battery then min most s.settings.site.economy else most : Nat) : Int)
    let vLim := max (-vmax) (min vmax ((tu.kp * e).tdiv 16))
    let turns := 0 < (s.gate g).vPrev ∧ vLim < 0 ∨ (s.gate g).vPrev < 0 ∧ 0 < vLim
    let guarded := ∃ x, o.guard = some x ∧ (s.measure.head < x ∨ s.measure.headDisputed = true)
    let rises := 0 < vLim ∧ 0 < (s.gate g).vPrev.natAbs + tu.accel
    let rests := e.natAbs ≤ tu.deadBand ∨ vLim = 0
    let reaches := (e.natAbs ≤ tu.deadBand ∧ (s.gate g).settle + 1 < tu.settleCount) ∨
      (tu.deadBand < e.natAbs ∧ ¬ turns ∧ ¬ (rises ∧ guarded))
    ∃ t, exec (.travelStep g) s = .next t ∧
      (reaches ∧ tu.skewTrip < (pL - pR).natAbs →
        (t.gate g).st = .fault ∧ (t.gate g).hoists = ⟨.off, .off⟩ ∧ (rests → (t.gate g).vPrev = 0 ∧ (t.gate g).window = none) ∧
        (t.gate g).fault = some { kind := .skew, hoist := .both, second := s.stamp, further := 0 }) ∧
      (¬ (reaches ∧ tu.skewTrip < (pL - pR).natAbs) → ∀ r, (t.gate g).fault = some r → r.kind ≠ .skew)

/-- What a travel step that drives can demand, whatever its inputs: a demand within the speed limit and the ramp, never
against a nonzero previous demand; and for each hoist a direction exactly with a duty, a duty of 0 or from Dmin to 1000, and
a direction never against the move. -/
def Obligations.TravelNeverRunsAgainstTheMove : Prop :=
  ∀ (x : StepInputs) (n : Nat) (v : Int) (w : Option StallWindow) (l r : Direction × Nat),
    tuningOk x.tune = true → 200 ≤ x.fullSpeed → x.fullSpeed ≤ 5000 → travelComputation x = .moved n v w l r →
    v.natAbs ≤ x.vmax ∧ v.natAbs ≤ x.vPrev.natAbs + x.tune.accel ∧ 0 ≤ x.vPrev * v ∧
      ∀ h, h = l ∨ h = r →
        (h.1 = .neither ↔ h.2 = 0) ∧ (h.2 = 0 ∨ x.tune.breakaway ≤ h.2 ∧ h.2 ≤ 1000) ∧
          (h.1 = .raise → 0 < v) ∧ (h.1 = .lower → v < 0)

/-- The timed phases of a gate with no gate waiting. The lift ends in TRAVEL with its motion context fresh; the dwell in
RELEASING with the lift timer started; the stop releases the slot and ends in IDLE, in HELD, or in a new grant or
WAIT_GRANT, as the order in force gives. That the expiry of a timer that does not run changes nothing is the model's choice
(notes/assumptions 2). -/
def Obligations.TimedPhases : Prop :=
  ∀ (g : Gate) (s : State),
    (∀ left, (s.gate g).st = .releasing → (s.gate g).phaseTimer = some left →
      ∃ t, exec (.liftTimerExpiry g) s = .next t ∧
        t.gate g = { s.gate g with st := .travel, vPrev := 0, settle := 0, window := none, phaseTimer := none,
                                   stepTimer := some (s.tune g).stepPeriod, trimTimer := none,
                                   hoists := s.liftedHoists g } ∧
        (∀ h, h ≠ g → t.gate h = s.gate h) ∧ t.store = s.store ∧ t.arbiter = s.arbiter ∧ Spared none s t) ∧
    (∀ left, (s.gate g).st = .reversing → (s.gate g).phaseTimer = some left →
      ∃ t, exec (.dwellTimerExpiry g) s = .next t ∧
        t.gate g = { s.gate g with st := .releasing, vPrev := 0, stepTimer := none,
                                   phaseTimer := some (s.tune g).liftTime, trimTimer := none,
                                   hoists := s.liftedHoists g } ∧
        (∀ h, h ≠ g → t.gate h = s.gate h) ∧ t.store = s.store ∧ t.arbiter = s.arbiter ∧ Spared none s t) ∧
    (∀ left, (s.gate g).st = .stopping → (s.gate g).phaseTimer = some left → s.arbiter.waiters = [] → s.quiet →
      firstEligible s g = none →
      let rest := s.arbiter.holders.filter fun h => h.gate != g
      ∃ t, exec (.setTimerExpiry g) s = .next t ∧ OtherGatesSame g s t ∧ t.queue g = s.queue g ∧ Spared none s t ∧
        (s.orderInForce g = none → badChannels s g = none →
          (t.gate g).st = .idle ∧ (t.gate g).link = none ∧ t.arbiter.holders = rest ∧ t.arbiter.waiters = []) ∧
        (∀ d, s.orderInForce g = none → badChannels s g = some d →
          (t.gate g).st = .fault ∧
          (t.gate g).fault = some { kind := .position, hoist := d, second := s.stamp, further := 0 }) ∧
        (∀ o, s.orderInForce g = some o → o.state = .held →
          (t.gate g).st = .held ∧ t.arbiter.holders = rest ∧ t.arbiter.waiters = []) ∧
        (∀ o, s.orderInForce g = some o → o.state ≠ .held → rest.length < s.arbiter.limit →
          (t.gate g).st = .releasing ∧ t.arbiter.holders = rest ++ [{ gate := g, named := false }] ∧
          t.arbiter.waiters = []) ∧
        (∀ o, s.orderInForce g = some o → o.state ≠ .held → s.arbiter.limit ≤ rest.length →
          (t.gate g).st = .waitGrant ∧ t.arbiter.holders = rest ∧ t.arbiter.waiters = [g])) ∧
    ((s.gate g).phaseTimer = none → exec (.liftTimerExpiry g) s = .next s ∧ exec (.dwellTimerExpiry g) s = .next s ∧
      exec (.setTimerExpiry g) s = .next s)

/-- The trim. A trim step at or below half the skew trip ends it in STOPPING; above, the higher hoist alone lowers with the
duty of the trim speed, and the step timer restarts. At the trim limit the gate takes a TRIM fault naming BOTH, and gives
its slot back. -/
def Obligations.Trim : Prop :=
  ∀ (g : Gate) (pL pR : Int) (left : Nat) (s : State), (s.gate g).st = .trim →
    ((s.gate g).stepTimer = some left →
      (s.hoistMeas g .left).position = some pL → (s.hoistMeas g .right).position = some pR →
      let raw := min 1000 (((s.tune g).trimSpeed * 1000 + s.fullSpeed g / 2) / s.fullSpeed g)
      let duty := if 1 ≤ raw ∧ raw < (s.tune g).breakaway then (s.tune g).breakaway else raw
      ∃ t, exec (.trimStep g) s = .next t ∧ t.store = s.store ∧ t.arbiter = s.arbiter ∧ Spared none s t ∧
        (∀ h, h ≠ g → t.gate h = s.gate h) ∧
        ((pL - pR).natAbs ≤ (s.tune g).skewTrip / 2 →
          (t.gate g).st = .stopping ∧ (t.gate g).hoists = ⟨.off, .off⟩ ∧ (t.gate g).stepTimer = none ∧
          (t.gate g).trimTimer = none ∧ (t.gate g).phaseTimer = some (s.tune g).setTime) ∧
        ((s.tune g).skewTrip / 2 < (pL - pR).natAbs →
          (t.gate g).st = .trim ∧ (t.gate g).trimTimer = (s.gate g).trimTimer ∧
          (t.gate g).stepTimer = some (s.tune g).stepPeriod ∧
          (s.inhibited g = false → (s.gate g).hoists.left.brake = true → (s.gate g).hoists.right.brake = true →
            0 < duty → 0 < (s.tune g).trimSpeed →
            (pR < pL → (t.gate g).hoists = ⟨⟨true, .lower, duty⟩, ⟨true, .neither, 0⟩⟩) ∧
            (pL < pR → (t.gate g).hoists = ⟨⟨true, .neither, 0⟩, ⟨true, .lower, duty⟩⟩)))) ∧
    (∀ limit, (s.gate g).trimTimer = some limit → (s.gate g).link = none → s.arbiter.waiters = [] → s.quiet →
      ∃ t, exec (.trimLimitExpiry g) s = .next t ∧ OtherGatesSame g s t ∧ t.store = s.store ∧ Spared none s t ∧
        t.gate g = { s.gate g with
          st := .fault, hoists := ⟨.off, .off⟩, stepTimer := none, phaseTimer := none, trimTimer := none,
          fault := some { kind := .trim, hoist := .both, second := s.stamp, further := 0 } } ∧
        t.arbiter.holders = s.arbiter.holders.filter (fun h => h.gate != g) ∧
        ∀ q, (t.link q).notices.fault.get g = true)

/-- A fault raised on a gate, whatever raises it. In DISABLED nothing. In FAULT it is a further fault: it raises the
record's count by one, up to 15, keeps the record's kind, hoist and second, sets the gate's FAULT flag at both ports where
the count rises, and changes nothing else. In any other state it is the fault stop: FAULT with its record and flag, the
outputs off and the brakes applied, no timer, no slot and no place on the wait list. The order in force leaves its queue
FAULTED, with its last-outcome record and the OUTCOME flag at both ports; an order not in force stays. Where that order was
in no set no other gate is touched. Where it was a member of a set, it leaves the set, which dissolves with its last member
and is broken otherwise, and GROUP falls on each of the set's orders in force: HELD, its gate from WAIT_GRANT to HELD, from
a move to STOPPING; the other gates and the other sets are untouched. -/
def Obligations.FaultsRaised : Prop :=
  ∀ (g : Gate) (k : FaultKind) (d : Designation) (s : State),
    ((s.gate g).st = .disabled → raiseFault g k d s = (s, [])) ∧
    (∀ r, (s.gate g).st = .fault → (s.gate g).fault = some r → r.further ≤ 15 →
      (r.further = 15 → raiseFault g k d s = (s, [])) ∧
      (r.further < 15 → ∃ t, raiseFault g k d s = (t, []) ∧
        t = { s with gates := t.gates, links := t.links } ∧ (∀ h, h ≠ g → t.gate h = s.gate h) ∧
        t.gate g = { s.gate g with fault := some { r with further := r.further + 1 } } ∧
        ∀ q, t.link q = { s.link q with notices := { (s.link q).notices with
          fault := (s.link q).notices.fault.set g true } })) ∧
    ((s.gate g).st ≠ .disabled → (s.gate g).st ≠ .fault → s.numbersDistinct →
      ∃ t tests, raiseFault g k d s = (t, tests) ∧
        t.gate g = { s.gate g with
          st := .fault, link := (t.gate g).link, outcome := (t.gate g).outcome, hoists := ⟨.off, .off⟩, stepTimer := none,
          phaseTimer := none, trimTimer := none,
          fault := some { kind := k, hoist := d, second := s.stamp, further := 0 } } ∧
        (∀ q, (t.link q).notices.fault.get g = true) ∧
        g ∉ t.holderGates ∧ g ∉ t.arbiter.waiters ∧ g ∉ t.arbiter.fresh ∧ t.arbiter.limit = s.arbiter.limit ∧
        t.arbiter.holders = s.arbiter.holders.filter (fun h => h.gate != g) ∧ t.supply = s.supply ∧ Spared none s t ∧
        ((s.gate g).link = none →
          tests = [] ∧ t.store = s.store ∧ OtherGatesSame g s t ∧ (t.gate g).link = none ∧
          (t.gate g).outcome = (s.gate g).outcome) ∧
        (∀ o, s.orderInForce g = some o →
          t.queue g = (s.queue g).filter (fun x => x.number != o.number) ∧ (t.gate g).link = none ∧
          (t.gate g).outcome = some { number := o.number, tag := o.tag, cls := o.cls, outcome := .faulted,
                                      second := s.stamp, mean := meanPosition s g } ∧
          (∀ q, (t.link q).notices.outcome.get g = true) ∧
          (o.setNo = none → tests = [] ∧ OtherGatesSame g s t ∧ t.store.sets = s.store.sets) ∧
          (∀ n r, o.setNo = some n → s.findSet n = some r → s.setsSound →
            let left := r.members.filter (fun m => m != o.number)
            (left = [] → t.findSet n = none) ∧
            (left ≠ [] → ∃ r', t.findSet n = some r' ∧ r'.members = left ∧ r'.broken = true ∧ r'.joint = r.joint ∧
              (r'.allReady = true ↔ r.allReady = true ∨
                ∀ m ∈ left, ∃ x ∈ s.liveOrders, x.2.number = m ∧ x.2.state = .ready)) ∧
            (∀ j, j ≠ n → t.findSet j = s.findSet j) ∧
            (∀ h ∈ tests, ∃ x ∈ s.queue h, x.setNo = some n ∧ x.state = .ready) ∧
            (∀ h m, h ≠ g → s.orderInForce h = some m → m.setNo = some n → m.holds.group = false →
              t.orderInForce h = some { m with state := .held, holds := { m.holds with group := true } } ∧
              ((s.gate h).st = .waitGrant → (t.gate h).st = .held ∧ h ∉ t.arbiter.waiters) ∧
              ((s.gate h).st = .releasing ∨ (s.gate h).st = .travel ∨ (s.gate h).st = .reversing →
                (t.gate h).st = .stopping ∧ (t.gate h).hoists = ⟨.off, .off⟩ ∧
                (t.gate h).phaseTimer = some (s.tune h).setTime) ∧
              ((s.gate h).st = .stopping ∨ (s.gate h).st = .held → t.gate h = s.gate h)) ∧
            (∀ h, h ≠ g → (∀ m, s.orderInForce h = some m → m.setNo ≠ some n ∨ m.holds.group = true) →
              t.gate h = s.gate h ∧ t.queue h = s.queue h))))

/-- The ESTOP line. An assertion leaves every gate that is not DISABLED in FAULT with all outputs off, and with no slot held;
a gate with an empty queue takes a record of kind ESTOP, naming BOTH; a DISABLED gate stays as it is. A release changes
nothing but the line, and with it each gate's inhibit. -/
def Obligations.EstopLine : Prop :=
  ∀ s : State,
    (s.lines.estop = false → s.slotsSound →
      ∃ t, exec .estopAssert s = .next t ∧ t.lines = { s.lines with estop := true } ∧
        (∀ g, (t.gate g).hoists = ⟨.off, .off⟩ ∧ t.inhibited g = true) ∧
        (∀ g, (s.gate g).st ≠ .disabled → (t.gate g).st = .fault) ∧
        (∀ g, (s.gate g).st = .disabled → (t.gate g).st = .disabled ∧ (t.gate g).fault = (s.gate g).fault) ∧
        (∀ g, (s.gate g).st ≠ .disabled → (s.gate g).st ≠ .fault → s.queue g = [] →
          (t.gate g).fault = some { kind := .estop, hoist := .both, second := s.stamp, further := 0 }) ∧
        (∀ g r, (s.gate g).st = .fault → (s.gate g).fault = some r → r.further < 15 →
          (t.gate g).fault = some { r with further := r.further + 1 }) ∧
        t.arbiter.holders = [] ∧ t.arbiter.waiters = [] ∧ OrdersOnlyLeave s t ∧
        Spared none s { t with lines := s.lines } ∧ t.supply = s.supply) ∧
    ∃ t, exec .estopRelease s = .next t ∧ t = { s with lines := { s.lines with estop := false } } ∧
      ∀ g, t.inhibited g = s.isolated g

/-! ### Isolations (08) -/

/-- PLACE ISOLATION of a new entry: it stands at the end of the table, not Kept; every gate of its scope is isolated with its
outputs off, its order in force HELD with ISOLATED, and a gate that was moving for it in STOPPING; a gate in TRIM is in
STOPPING and keeps its slot; a gate in a trim wait leaves the wait list for IDLE, or for FAULT of kind POSITION where a
position channel is not valid, and from IDLE its first eligible order takes force, HELD; the ISOLATION flag is set at both ports; and the request waits on a write of the table as it then stands, which starts at once where none is in flight
or pending. Where no gate of its scope is in a trim wait, no gate outside it is touched. -/
def Obligations.PlaceIsolation : Prop :=
  ∀ (p : Port) (seq c3 c2 c1 c0 sc m1 m0 : Byte) (scope : Scope) (s : State),
    s.takes p → scopeOf sc.toNat = some scope →
    let code := ((c3.toNat * 256 + c2.toNat) * 256 + c1.toNat) * 256 + c0.toNat
    let covers (g : Gate) : Prop := scope = .site ∨ scope = .gate g
    code ≠ 0 → (∀ e ∈ s.isolations.entries, ¬ (e.code = code ∧ e.scope = scope)) →
    s.isolations.entries.length < 24 → s.slotsSound →
    ∃ t started, exec (.placeIsolation p seq [c3, c2, c1, c0, sc, m1, m0]) s = .next t ∧
      t.isolations.entries = s.isolations.entries ++
        [{ code := code, scope := scope, crew := m1.toNat * 256 + m0.toNat, port := p, second := s.stamp,
           placement := s.isolations.nextPlacement, kept := false }] ∧
      t.isolations.doubt = s.isolations.doubt ∧
      t.waitsFor p .placeIsolation seq started
        (.placement (s.isolations.entries.length + 1) s.isolations.nextPlacement) ∧
      (s.nvs.flight = none → s.nvs.isolationJob = false → started = true ∧ t.nvs.timer = some 40 ∧
        t.nvs.flight = some (.isolation t.isolations.image)) ∧
      (∀ f, s.nvs.flight = some f → started = false ∧ t.nvs = { s.nvs with isolationJob := true }) ∧
      (∀ q, (t.link q).notices.isolation = true) ∧ OrdersOnlyLeave s t ∧ t.settings = s.settings ∧
      t.clock = s.clock ∧ t.lines = s.lines ∧ t.holdAll = s.holdAll ∧
      (∀ g, covers g → t.isolated g = true) ∧
      (∀ g, ¬ covers g → t.isolated g = s.isolated g) ∧
      (∀ g, covers g → s.isolated g = false →
        (t.gate g).hoists = ⟨.off, .off⟩ ∧
        (∀ o, s.orderInForce g = some o → (s.gate g).st ≠ .trim → ∃ o', t.orderInForce g = some o' ∧
          o'.fixed = o.fixed ∧ o'.holds.isolated = true ∧ (o.holds.isolated = false → o'.state = .held ∧
          ((s.gate g).st = .releasing ∨ (s.gate g).st = .travel ∨ (s.gate g).st = .reversing →
            (t.gate g).st = .stopping) ∧
          ((s.gate g).st = .waitGrant → (t.gate g).st = .held))) ∧
        ((s.gate g).st = .trim →
          t.gate g = { s.gate g with
            st := .stopping, hoists := ⟨.off, .off⟩, stepTimer := none, phaseTimer := some (s.tune g).setTime,
            trimTimer := none } ∧ g ∈ t.holderGates) ∧
        ((s.gate g).st = .waitGrant → (s.gate g).link = none →
          g ∉ t.arbiter.waiters ∧ (t.gate g).st ∈ [GateState.idle, .held, .fault] ∧
          (scope = .gate g → firstEligible s g = none ∨ badChannels s g ≠ none →
            OtherGatesSame g s t ∧ t.queue g = s.queue g ∧ t.arbiter.holders = s.arbiter.holders ∧
            (t.gate g).link = none ∧ (t.gate g).vPrev = 0 ∧ (t.gate g).settle = 0 ∧ (t.gate g).window = none ∧
            (badChannels s g = none → (t.gate g).st = .idle) ∧
            (∀ d, badChannels s g = some d → (t.gate g).st = .fault ∧
              (t.gate g).fault = some { kind := .position, hoist := d, second := s.stamp, further := 0 })) ∧
          (∀ o, scope = .gate g → firstEligible s g = some o → badChannels s g = none → boundsFault s g = none →
            (t.gate g).st = .held ∧ t.orderInForce g = some { o with
              state := .held, holds := { HoldSet.none with isolated := true, all := s.holdAll } }))) ∧
      ((∀ g, covers g → ¬ ((s.gate g).st = .waitGrant ∧ (s.gate g).link = none)) →
        ∀ g, ¬ covers g ∨ s.isolated g = true → t.gate g = s.gate g ∧ t.queue g = s.queue g)

/-- The refusals of PLACE ISOLATION and the renewal. A code of 0, a scope outside the table, an entry with the same code and
scope that is Kept, and a full table are refused BAD_FIELD, BAD_GATE, DUPLICATE and TABLE_FULL, with nothing changed. An
entry with the same code and scope that is not Kept is renewed: the table stays as it is, and the request waits on a write
of it. -/
def Obligations.IsolationRefusalsAndRenewal : Prop :=
  ∀ (p : Port) (seq c3 c2 c1 c0 sc m1 m0 : Byte) (s : State), s.takes p →
    let code := ((c3.toNat * 256 + c2.toNat) * 256 + c1.toNat) * 256 + c0.toNat
    let cmd := Instr.placeIsolation p seq [c3, c2, c1, c0, sc, m1, m0]
    let refusedWith (st : Status) : Prop := exec cmd s = .next (answerOn p 0x30 seq st .none [0] (wake s))
    (code = 0 → refusedWith .badField) ∧
    (code ≠ 0 → sc.toNat = 0 ∨ 7 < sc.toNat → refusedWith .badGate) ∧
    (∀ scope, code ≠ 0 → scopeOf sc.toNat = some scope →
      (∀ e, s.isolations.entries.find? (fun x => x.code == code && x.scope == scope) = some e →
        (e.kept = true → refusedWith .duplicate) ∧
        (e.kept = false → ∃ t started, exec cmd s = .next t ∧ t.isolations = s.isolations ∧
          t.waitsFor p .placeIsolation seq started (.renewal e.placement) ∧
          (s.nvs.flight = none → started = true ∧
            t.nvs.flight = some (.isolation s.isolations.image)) ∧
          (∀ f, s.nvs.flight = some f → started = false ∧ t.nvs = { s.nvs with isolationJob := true }) ∧
          t.gates = s.gates ∧ t.store = s.store)) ∧
      ((∀ e ∈ s.isolations.entries, ¬ (e.code = code ∧ e.scope = scope)) → 24 ≤ s.isolations.entries.length →
        refusedWith .tableFull))

/-- REMOVE ISOLATION takes out the entry that has the code and the scope, from either port, and CONFIRM ISOLATIONS clears
STORE_DOUBT; each sets the ISOLATION flag at both ports and waits on a write of the table as it then stands, which starts
at once where none is in flight or pending, and is pending after the one in flight otherwise. A gate that thereby ceases to be
isolated loses ISOLATED from its order in force; one held for nothing else is IN_FORCE again, and its gate leaves HELD for
WAIT_GRANT or a slot. A code and scope that match no entry are refused BAD_CODE, and a confirmation with nothing in doubt
NOT_DOUBTED, with nothing changed. -/
def Obligations.IsolationEnds : Prop :=
  ∀ (p : Port) (seq c3 c2 c1 c0 sc : Byte) (scope : Scope) (s : State),
    let code := ((c3.toNat * 256 + c2.toNat) * 256 + c1.toNat) * 256 + c0.toNat
    let remove := Instr.removeIsolation p seq [c3, c2, c1, c0, sc]
    let asks (t : State) (started : Bool) : Prop :=
      (s.nvs.flight = none → s.nvs.isolationJob = false → started = true ∧
        t.nvs = { s.nvs with flight := some (.isolation t.isolations.image), timer := some 40 }) ∧
      (∀ f, s.nvs.flight = some f → started = false ∧ t.nvs = { s.nvs with isolationJob := true })
    let freed (t : State) : Prop := ∀ g o, s.orderInForce g = some o → s.isolated g = true → t.isolated g = false →
      ∃ o', t.orderInForce g = some o' ∧ o'.fixed = o.fixed ∧ o'.holds = { o.holds with isolated := false } ∧
        (o.holds = { HoldSet.none with isolated := true } → o'.state = .inForce ∧
          ((s.gate g).st = .held → (t.gate g).st = .waitGrant ∨ (t.gate g).st = .releasing))
    (s.takes p → scopeOf sc.toNat = some scope →
      (∀ e ∈ s.isolations.entries, ¬ (e.code = code ∧ e.scope = scope)) →
      exec remove s = .next (answerOn p 0x31 seq .badCode .none [0] (wake s))) ∧
    (s.takes p → scopeOf sc.toNat = some scope → s.quiet →
      (∃ e ∈ s.isolations.entries, e.code = code ∧ e.scope = scope) →
      ∃ t started, exec remove s = .next t ∧
        t.isolations = { s.isolations with
          entries := s.isolations.entries.filter fun e => !(e.code == code && e.scope == scope) } ∧
        t.waitsFor p .removeIsolation seq started (.removal t.isolations.entries.length) ∧
        asks t started ∧ (∀ q, (t.link q).notices.isolation = true) ∧ freed t ∧ OrdersOnlyLeave s t) ∧
    (s.serves p .confirmIsolations → s.isolations.doubt = false →
      exec (.confirmIsolations p seq []) s = .next (answerOn p 0x33 seq .notDoubted .none [0] (wake s))) ∧
    (s.serves p .confirmIsolations → s.isolations.doubt = true → s.quiet →
      ∃ t started, exec (.confirmIsolations p seq []) s = .next t ∧
        t.isolations = { s.isolations with doubt := false } ∧
        t.waitsFor p .confirmIsolations seq started .confirmation ∧
        asks t started ∧ (∀ q, (t.link q).notices.isolation = true) ∧ freed t ∧ OrdersOnlyLeave s t)

/-! ### The clock and the level starts (04) -/

/-- SET CLOCK loads the clock, sets CLOCK_SET and restarts the second timer; a tick counts the clock up by one, from
4294967295 to 0, and restarts it. In the evaluation of either, every live order whose deadline the clock has reached leaves,
LAPSED where it was QUEUED or READY and OVERDUE where it was in force; every other QUEUED order whose AT_TIME start it has
reached is READY, or has gone on from there to take force; and SET CLOCK answers the three counts. A gate that stays busy
keeps such an order READY; a gate that moved for an order that expired is in STOPPING; and one that held or waited for it,
with no order left, is IDLE. Where no order had expired or been reached, no order and no gate is touched. -/
def Obligations.ClockEvaluation : Prop :=
  ∀ (p : Port) (seq v3 v2 v1 v0 : Byte) (s : State) (c : Instr) (value : Nat) (isSet : Bool),
    s.numbersDistinct → s.quotasHeld → s.quiet → (∀ g o, s.orderInForce g = some o → o.state ≠ .queued) →
    (c = .setClock p seq [v3, v2, v1, v0] ∧ s.serves p .setClock ∧ isSet = true ∧
      value = ((v3.toNat * 256 + v2.toNat) * 256 + v1.toNat) * 256 + v0.toNat) ∨
    (c = .tick ∧ s.clock.second ≠ none ∧ s.clock.value ≤ 4294967295 ∧ isSet = s.clock.isSet ∧
      value = (if s.clock.value = 4294967295 then 0 else s.clock.value + 1)) →
    let expires (o : Order) : Bool := match o.deadline with
      | some d => decide (d ≤ value)
      | none => false
    let waiting (o : Order) : Bool := o.state == .queued || o.state == .ready
    let reached (o : Order) : Bool := o.state == .queued && !expires o && match o.start with
      | .atTime at_ => decide (at_ ≤ value)
      | _ => false
    let count (f : Order → Bool) : Byte := BitVec.ofNat 8 (s.liveOrders.filter fun x => f x.2).length
    let noSets := ∀ x ∈ s.liveOrders, x.2.setNo = none
    let moving (g : Gate) := (s.gate g).st = .releasing ∨ (s.gate g).st = .travel ∨ (s.gate g).st = .reversing
    let losesForce (g : Gate) := ∃ o, s.orderInForce g = some o ∧ expires o = true
    let leads (g : Gate) := ∃ o, s.orderInForce g = some o ∧ expires o = false ∧
      ∀ x ∈ s.queue g, classRank x.cls ≤ classRank o.cls
    let busy (g : Gate) := (s.gate g).st ∈ [GateState.stopping, .trim, .fault, .disabled] ∨ (moving g ∧ losesForce g) ∨
      ((moving g ∨ (s.gate g).st = .waitGrant ∨ (s.gate g).st = .held) ∧ leads g)
    ∃ t, exec c s = .next t ∧ t.clock = { value := value, isSet := isSet, second := some 1000 } ∧
      OrdersOnlyLeave s t ∧
      Spared (match c with | .setClock q _ _ => some q | _ => none) s { t with clock := s.clock } ∧
      (∀ x ∈ t.liveOrders, ∀ d, x.2.deadline = some d → value < d) ∧
      (∀ x ∈ t.liveOrders, ∀ at_, x.2.state = .queued → x.2.start = .atTime at_ → value < at_) ∧
      (c ≠ .tick → t.answered p .setClock seq .done [v3, v2, v1, v0, count fun o => expires o && waiting o,
        count fun o => expires o && !waiting o, count reached]) ∧
      (∀ g, ∀ o ∈ s.queue g, expires o = true → ∀ q, (t.link q).notices.outcome.get g = true) ∧
      (noSets → ∀ g front o, (s.queue g).filter expires = front ++ [o] →
        (∀ x ∈ s.queue g, reached x = false) →
        ¬ losesForce g ∨ moving g ∨ (s.gate g).st = .stopping ∨ (∀ x ∈ s.queue g, expires x = true) →
        (t.gate g).outcome = some
          { number := o.number, tag := o.tag, cls := o.cls, outcome := if waiting o then .lapsed else .overdue,
            second := if isSet then some value else none, mean := meanPosition s g }) ∧
      (∀ g, ∀ o ∈ s.queue g, reached o = true →
        (∃ x ∈ t.queue g, x.number = o.number ∧ x.fixed = o.fixed ∧ x.state ≠ .queued) ∨
          ∃ r, (t.gate g).outcome = some r ∧ (r.outcome = .arrived ∨ r.outcome = .faulted)) ∧
      (∀ g, busy g → ∀ o ∈ s.queue g, reached o = true → { o with state := .ready, armed := false } ∈ t.queue g) ∧
      (c = .tick → t.supply = if count reached = 0 then s.supply else (wake s).supply) ∧
      (∀ g, losesForce g → moving g →
        (t.gate g).st = .stopping ∧ (t.gate g).link = none ∧ (t.gate g).hoists = ⟨.off, .off⟩ ∧
        (t.gate g).phaseTimer = some (s.tune g).setTime) ∧
      (∀ g, losesForce g → (s.gate g).st = .waitGrant ∨ (s.gate g).st = .held → (∀ x ∈ s.queue g, expires x = true) →
        badChannels s g = none →
        (t.gate g).st = .idle ∧ (t.gate g).link = none ∧ (t.gate g).hoists = ⟨.off, .off⟩ ∧ g ∉ t.arbiter.waiters) ∧
      ((∀ x ∈ s.liveOrders, expires x.2 = false ∧ reached x.2 = false) →
        t.store = s.store ∧ t.gates = s.gates ∧ t.arbiter = s.arbiter)

/-- The Start Watch at a level update of a side. A DISPUTED or LOST level does nothing. At a GOOD or SINGLE one, an armed
QUEUED order of that side whose condition the level satisfies is QUEUED no more; one not armed, whose start the level lies
short of by the hysteresis or more, is armed; and every other QUEUED order stays as it was. -/
def Obligations.LevelStarts : Prop :=
  ∀ (w : Weir) (s : State), s.numbersDistinct →
    let side := s.measure.sides.get w
    let h := (s.settings.site.hysteresis : Int)
    (side.quality = .disputed ∨ side.quality = .lost → levelStarts w s = s) ∧
    (side.quality = .good ∨ side.quality = .single → (∀ g o, s.orderInForce g = some o → o.state ≠ .queued) →
      ∀ g, ∀ o ∈ s.queue g, o.state = .queued → ∀ dir v l, o.start = .level dir v l →
        let met := v = w ∧ o.armed = true ∧ (dir = .rise ∧ l ≤ side.agreed ∨ dir = .fall ∧ side.agreed ≤ l)
        let arms := v = w ∧ o.armed = false ∧ (dir = .rise ∧ side.agreed ≤ l - h ∨ dir = .fall ∧ l + h ≤ side.agreed)
        (met → ∀ x ∈ (levelStarts w s).queue g, x.number = o.number → x.state ≠ .queued ∧ x.armed = false) ∧
        (¬ met → (if arms then { o with armed := true } else o) ∈ (levelStarts w s).queue g))

/-! ### The supply and the lines (09, 10) -/

/-- The supply's states. PARK is refused WAKE_PENDING in WAKING and NOT_IDLE while a gate is not at rest; else the supply
passes to PARKING with DRIVE_SUPPLY off, the drop-out timer of 2000 ms started and the limit 0. The drop-out expiry passes to
PARKED, the scan timer set to 10 s from the last scan's start. The settle expiry passes from WAKING to RUN with the limit of
the source as it stands, and grants slots from the head of the wait list, as many as the limit allows. Each change sets the
SUPPLY flag at both ports. -/
def Obligations.SupplyStates : Prop :=
  ∀ (p : Port) (seq : Byte) (s : State),
    let limit := match s.supply.source with
      | .mains => s.settings.site.limitMains
      | .battery => s.settings.site.limitBattery
    (s.serves p .park → (wake s).supply.st = .waking →
      exec (.park p seq []) s = .next (answerOn p 0x50 seq .wakePending .none [0] (wake s))) ∧
    (s.serves p .park → s.supply.st = .run →
      (∃ g, (s.gate g).st ∉ [GateState.idle, .fault, .disabled] ∨ ((s.gate g).st = .idle ∧ firstEligible s g ≠ none)) →
      exec (.park p seq []) s = .next (answerOn p 0x50 seq .notIdle .none [0] s)) ∧
    (s.serves p .park → s.supply.st = .run → s.arbiter.holders = [] → s.quiet →
      (∀ g, (s.gate g).st ∈ [GateState.idle, .fault, .disabled] ∧ ((s.gate g).st = .idle → firstEligible s g = none)) →
      ∃ t, exec (.park p seq []) s = .next t ∧ t.answered p .park seq .done [1] ∧
        t.supply = { s.supply with st := .parking, driveSupply := false, phase := some 2000 } ∧
        t.arbiter = { s.arbiter with limit := 0 } ∧ (∀ q, (t.link q).notices.supply = true) ∧
        t.gates = s.gates ∧ t.store = s.store ∧ t.measure = s.measure ∧ Spared (some p) s t) ∧
    (∀ left, s.started = true → s.supply.st = .parking → s.supply.phase = some left →
      ∃ t, exec .dropOutExpiry s = .next t ∧
        t.supply = { s.supply with st := .parked, driveSupply := false, phase := none } ∧
        t.measure.scanTimer = some (10000 - s.measure.sinceScan) ∧ t.measure.scan = s.measure.scan ∧
        (∀ q, (t.link q).notices.supply = true) ∧ t.gates = s.gates ∧ t.store = s.store ∧ t.arbiter = s.arbiter ∧
        Spared none s t) ∧
    (∀ left, s.started = true → s.supply.st = .waking → s.supply.phase = some left → s.slotsSound →
      s.arbiter.limit = 0 → s.arbiter.holders = [] →
      ∃ t, exec .settleTimerExpiry s = .next t ∧
        t.supply = { s.supply with st := .run, driveSupply := true, phase := none } ∧ t.arbiter.limit = limit ∧
        t.holderGates = (waitList s).take limit ∧ waitList t = (waitList s).drop limit ∧
        (∀ q, (t.link q).notices.supply = true) ∧ t.store = s.store ∧ Spared none s t ∧
        (∀ g ∈ (waitList s).take limit, (t.gate g).st = (if (s.gate g).link = none then .trim else .releasing)) ∧
        (∀ g, g ∉ (waitList s).take limit → t.gate g = s.gate g))

/-- MAINS_OK_CHANGE. The source follows the line, the SUPPLY flag is set at both ports, and the drive limit is what the
supply state after the change and the source give, with no more running holders than that; a rise of the limit grants slots
from the head of the wait list, and a fall makes the reclaim, which names the running holders of lowest rank and of equal
rank the latest granted. In PARKING and PARKED it is a wake condition. That a command naming the level the line already has
changes nothing is the model's choice (notes/assumptions 21); that a fall below the number of holders marks those already in
STOPPING as named for reclaim is deduced (notes/assumptions 22). -/
def Obligations.MainsChange : Prop :=
  ∀ (asserted : Bool) (s : State),
    (s.lines.mainsOk = asserted → exec (.mainsOkChange asserted) s = .next s) ∧
    (s.lines.mainsOk ≠ asserted → s.started = true → s.slotsSound → s.limitHeld →
      ∃ t, exec (.mainsOkChange asserted) s = .next t ∧ t.lines = { s.lines with mainsOk := asserted } ∧
        t.supply.source = (if asserted then .mains else .battery) ∧
        t.supply.st = (match s.supply.st with | .run => .run | _ => .waking) ∧
        t.arbiter.limit = (if s.supply.st = .run then
          (if asserted then s.settings.site.limitMains else s.settings.site.limitBattery) else 0) ∧
        (runningHolders t).length ≤ t.arbiter.limit ∧ (∀ q, (t.link q).notices.supply = true) ∧
        (s.trimsBare → LimitMoves t.arbiter.limit s t) ∧
        OrdersOnlyLeave s t ∧ Spared none s { t with lines := s.lines })

/-- LOCAL_CHANGE. The seat passes to the panel at an assertion and to the station at a release. Where no order of the new
seat holder is READY, every order in force that the port without the seat placed is HELD with SEAT, a gate moving for it in
STOPPING and a gate waiting with it in HELD; and every order in force that the new seat holder placed has lost SEAT. That
a command naming the level the line already has changes nothing is the model's choice (notes/assumptions 21). -/
def Obligations.LocalChange : Prop :=
  ∀ (asserted : Bool) (s : State),
    let seat := if asserted then Port.panel else Port.station
    (s.lines.localKey = asserted → exec (.localChange asserted) s = .next s) ∧
    (s.lines.localKey ≠ asserted → s.slotsSound →
      ∃ t, exec (.localChange asserted) s = .next t ∧ t.lines = { s.lines with localKey := asserted } ∧ t.seat = seat ∧
        OrdersOnlyLeave s t ∧ Spared none s { t with lines := s.lines, seat := s.seat } ∧ t.supply = (wake s).supply ∧
        ((∀ x ∈ s.liveOrders, x.2.state = .ready → x.2.originator ≠ seat) →
          ∀ g o, s.orderInForce g = some o → o.state ≠ .ready →
            ∃ o', t.orderInForce g = some o' ∧ o'.fixed = o.fixed ∧
              o'.holds = { o.holds with seat := decide (o.originator ≠ seat) } ∧
              (o.originator ≠ seat → o.holds.seat = false → o'.state = .held ∧
                ((s.gate g).st = .releasing ∨ (s.gate g).st = .travel ∨ (s.gate g).st = .reversing →
                  (t.gate g).st = .stopping) ∧
                ((s.gate g).st = .waitGrant → (t.gate g).st = .held)) ∧
              (o.originator = seat → o.holds = { HoldSet.none with seat := true } → o'.state = .inForce ∧
                ((s.gate g).st = .held → (t.gate g).st = .waitGrant ∨ (t.gate g).st = .releasing))))

/-! ### Measurement (01) -/

/-- The rounding of the scalings: the nearest whole number, and of two equally near the one farther from zero. -/
def Obligations.RoundsHalfAway : Prop :=
  ∀ n d : Int, d ≠ 0 →
    2 * (n - roundDiv n d * d).natAbs ≤ d.natAbs ∧
      (2 * (n - roundDiv n d * d).natAbs = d.natAbs → n.natAbs < (roundDiv n d * d).natAbs)

/-- A scan starts at the scan timer's expiry while none is in progress: in PARKED from channel 25 with the next 10 s away, in
every other supply state from channel 1 with the next 10 ms away. Each gauge conversion then sets its channel's standing by
its window, scales a valid code between the two calibration points, agrees its side by the table of qualities, forms the
head, and passes to the next channel. At that level update, while both sides are GOOD or SINGLE, HEAD is removed from each
order in force whose raise guard the head stands at or above by the level hysteresis; an order held for nothing else is
IN_FORCE again, and its gate leaves HELD for WAIT_GRANT or a slot. No other order in force is changed, and none while a side
is DISPUTED or LOST (stated where no order waits for a level start, which the same update might meet). That SCAN_TIMER_EXPIRY changes nothing during a scan, or while the timer does not run,
is the model's choice (notes/assumptions 36 and 2). -/
def Obligations.ScansAndGauges : Prop :=
  ∀ (code : Code) (w : Weir) (n : GaugeName) (sc : Scan) (left : Nat) (s : State),
    (s.measure.scanTimer = some left → s.measure.scan = none → exec .scanTimerExpiry s = .next { s with
      measure := { s.measure with
        scan := some (if s.supply.st = .parked then { mode := .levelsOnly, next := 25 } else { mode := .full, next := 1 })
        scanTimer := some (if s.supply.st = .parked then 10000 else 10), sinceScan := 0, fullDue := false } }) ∧
    (s.measure.scan ≠ none ∨ s.measure.scanTimer = none → exec .scanTimerExpiry s = .next s) ∧
    (s.measure.scan = some sc →
      sc.next = 25 ∧ w = .up ∧ n = .a ∨ sc.next = 26 ∧ w = .up ∧ n = .b ∨ sc.next = 27 ∧ w = .down ∧ n = .a ∨
        sc.next = 28 ∧ w = .down ∧ n = .b →
      let win := s.settings.site.windows.get (.gauge w n)
      let cal := (s.settings.site.gauges.get w).get n
      let valid := win.low ≤ code.toNat ∧ code.toNat ≤ win.high
      let old := (s.measure.gauges.get w).get n
      let level := max (-5000) (min 15000
        (cal.l0 + roundDiv (((code.toNat : Int) - cal.z0) * (cal.l1 - cal.l0)) ((cal.z1 : Int) - cal.z0)))
      ∃ t, exec (.conversionComplete code) s = .next t ∧
        (t.measure.gauges.get w).get n =
          (if valid then { raw := code, standing := .valid, level := level }
           else { old with raw := code, standing := .invalid }) ∧
        (∀ v m, (v, m) ≠ (w, n) → (t.measure.gauges.get v).get m = (s.measure.gauges.get v).get m) ∧
        (∀ v, v ≠ w → t.measure.sides.get v = s.measure.sides.get v) ∧
        (let a := (t.measure.gauges.get w).a
         let b := (t.measure.gauges.get w).b
         let side := t.measure.sides.get w
         (a.standing = .valid → b.standing = .valid →
            (a.level - b.level).natAbs ≤ s.settings.site.tolerance →
            side = { agreed := (a.level + b.level).tdiv 2, quality := .good }) ∧
         (a.standing = .valid → b.standing = .valid → s.settings.site.tolerance < (a.level - b.level).natAbs →
            side = { agreed := (s.measure.sides.get w).agreed, quality := .disputed }) ∧
         (a.standing = .valid → b.standing ≠ .valid → side = { agreed := a.level, quality := .single }) ∧
         (a.standing ≠ .valid → b.standing = .valid → side = { agreed := b.level, quality := .single }) ∧
         (a.standing ≠ .valid → b.standing ≠ .valid →
            side = { agreed := (s.measure.sides.get w).agreed, quality := .lost })) ∧
        t.measure.head = t.measure.sides.up.agreed - t.measure.sides.down.agreed ∧
        (t.measure.headDisputed = false ↔
          t.measure.sides.up.quality ∈ [Quality.good, .single] ∧ t.measure.sides.down.quality ∈ [Quality.good, .single]) ∧
        (s.numbersDistinct → s.quiet →
          (∀ x ∈ s.liveOrders, x.2.state = .queued → ∀ dir v l, x.2.start ≠ .level dir v l) →
          ∀ g o, s.orderInForce g = some o →
            let only := o.holds = { HoldSet.none with head := true }
            let frees := t.measure.headDisputed = false ∧ o.holds.head = true ∧
              ∃ x, o.guard = some x ∧ x + (s.settings.site.hysteresis : Int) ≤ t.measure.head
            (¬ frees → t.orderInForce g = some o) ∧
            (frees → t.orderInForce g = some { o with
                state := if only then .inForce else o.state, holds := { o.holds with head := false } } ∧
              (only → (s.gate g).st = .held → (t.gate g).st = .waitGrant ∨ (t.gate g).st = .releasing) ∧
              (only → (s.gate g).st = .held → s.arbiter.limit ≤ s.arbiter.holders.length → (t.gate g).st = .waitGrant)) ∧
            (¬ (frees ∧ only ∧ (s.gate g).st = .held) → g ∉ s.arbiter.waiters → t.gate g = s.gate g)) ∧
        OrdersOnlyLeave s t ∧ t.settings = s.settings ∧ t.isolations = s.isolations ∧ t.lines = s.lines ∧
        (sc.next < 28 → t.measure.scan = some { sc with next := sc.next + 1 }))

/-- Position and load conversions. A position channel's standing follows its window, and a valid code of a gate with valid
geometry gives the position by its calibration, not clamped, with its out-of-bounds standing; a channel found invalid that
was not so before faults a gate not in DISABLED or FAULT POSITION, and a position out of bounds faults a moving gate LIMIT.
Any other position conversion, on a moving gate too, touches no gate and no order. A load is scaled and clamped to 0 to
2000, and each load-watch counter follows it: the overload counter while the brake is lifted, the slack counter while the
lower line is on. It counts a valid load at or past its threshold, is 0 at one short of it and while its output is off, and
keeps its value at an invalid conversion; at the filter count it faults the gate OVERLOAD or SLACK. That OVERLOAD comes
first where one conversion raises both is the model's choice (notes/assumptions 18). -/
def Obligations.HoistConversions : Prop :=
  ∀ (code : Code) (g : Gate) (d : Side) (sc : Scan) (cal : CodePair) (s : State), s.measure.scan = some sc → s.quiet →
    let place := 2 * gateNumber g - (match d with | .left => 1 | .right => 0)
    (sc.next = place →
      let win := s.settings.site.windows.get (.position g d)
      let valid := win.low ≤ code.toNat ∧ code.toNat ≤ win.high
      let old := s.hoistMeas g d
      let pos := roundDiv (((code.toNat : Int) - cal.c0) * (s.fullTravel g : Int)) ((cal.c1 : Int) - cal.c0)
      let out := pos < -250 ∨ (s.fullTravel g : Int) + 250 < pos
      let moving := (s.gate g).st ∈ [GateState.releasing, .travel, .reversing, .stopping, .trim]
      ∃ t, exec (.conversionComplete code) s = .next t ∧
        t.measure.scan = some { sc with next := sc.next + 1 } ∧ (t.hoistMeas g d).posRaw = code ∧
        (t.hoistMeas g d).posStanding = (if valid then .valid else .invalid) ∧
        (geometryValid (s.geo g) = true → (s.geo g).posCal.get d = some cal →
          (valid → (t.hoistMeas g d).position = some pos ∧ (t.hoistMeas g d).posValid = true ∧
            ((t.hoistMeas g d).outOfBounds = true ↔ out)) ∧
          (¬ valid → (t.hoistMeas g d).position = old.position ∧ (t.hoistMeas g d).posValid = false ∧
            (t.hoistMeas g d).outOfBounds = false)) ∧
        (geometryValid (s.geo g) = false →
          (t.hoistMeas g d).position = none ∧ (t.hoistMeas g d).outOfBounds = false) ∧
        (¬ valid → old.posStanding ≠ .invalid → (s.gate g).st ≠ .disabled → (s.gate g).st ≠ .fault →
          (t.gate g).st = .fault ∧ (t.gate g).hoists = ⟨.off, .off⟩ ∧
          (t.gate g).fault = some { kind := .position, hoist := designateSide d, second := s.stamp, further := 0 }) ∧
        (geometryValid (s.geo g) = true → (s.geo g).posCal.get d = some cal → valid → out → moving →
          (t.gate g).st = .fault ∧
          (t.gate g).fault = some { kind := .limit, hoist := designateSide d, second := s.stamp, further := 0 }) ∧
        ((valid ∧ ¬ moving) ∨ (valid ∧ geometryValid (s.geo g) = false) ∨
            (valid ∧ (s.geo g).posCal.get d = some cal ∧ ¬ out) ∨
            (¬ valid ∧ (old.posStanding = .invalid ∨ (s.gate g).st = .disabled)) →
          t.gates = s.gates ∧ t.store = s.store ∧ t.arbiter = s.arbiter)) ∧
    (sc.next = 12 + place →
      let win := s.settings.site.windows.get (.load g d)
      let valid := win.low ≤ code.toNat ∧ code.toNat ≤ win.high
      let lc := ((s.geo g).loadCal.get d).getD ⟨819, 4095⟩
      let lifted := ((s.gate g).hoists.get d).brake = true
      let lowers := ((s.gate g).hoists.get d).dir = .lower
      let heavyCount := (s.hoistMeas g d).overload
      let lightCount := (s.hoistMeas g d).slack
      let u := s.tune g
      let sound := (s.gate g).st ≠ .disabled ∧ (s.gate g).st ≠ .fault
      ∃ t, exec (.conversionComplete code) s = .next t ∧
        let m := t.hoistMeas g d
        let untouched := t.gates = s.gates ∧ t.store = s.store ∧ t.arbiter = s.arbiter
        let heavy := valid ∧ u.overload ≤ m.load
        let light := valid ∧ m.load ≤ u.slack
        let faulted (k : FaultKind) : Prop := (t.gate g).st = .fault ∧ (t.gate g).hoists = ⟨.off, .off⟩ ∧ m.overload = 0 ∧
          m.slack = 0 ∧ (t.gate g).fault = some { kind := k, hoist := designateSide d, second := s.stamp, further := 0 }
        let overloads := lifted ∧ heavy ∧ u.filter ≤ heavyCount + 1
        let slackens := lowers ∧ light ∧ u.filter ≤ lightCount + 1
        t.measure.scan = some { sc with next := sc.next + 1 } ∧ m.loadRaw = code ∧
        m.loadStanding = (if valid then .valid else .invalid) ∧
        (m.load : Int) = (if valid then max 0 (min 2000
          (roundDiv (2000 * ((code.toNat : Int) - lc.c0)) ((lc.c1 : Int) - lc.c0))) else (s.hoistMeas g d).load) ∧
        (overloads → sound → faulted .overload) ∧
        (¬ overloads → slackens → sound → faulted .slack) ∧
        (¬ overloads → ¬ slackens →
          m.overload = (if ¬ lifted then 0 else if ¬ valid then heavyCount else if u.overload ≤ m.load then heavyCount + 1
            else 0) ∧
          m.slack = (if ¬ lowers then 0 else if ¬ valid then lightCount else if m.load ≤ u.slack then lightCount + 1
            else 0) ∧
          untouched))

/-! ### Reset (02, 03, 04, 09, 10, 11) -/

/-- A device reset under at least one cause, its start-up run whole. The store is empty, its counters at their first values;
the clock is 0, not set, its second timer started; the supply is in RUN with DRIVE_SUPPLY on, the source and the seat as
their lines give, the drive limit by the source, no holder and no waiting gate, and the cause recorded, POWER where there is
more than one; the straps are sampled; the settings are those of the stored area if it passes its check, else the defaults
with SETTINGS_LOST; the isolations are those of the stored area, all Kept, or none with STORE_DOUBT; and both ports are in
HUNT, owe nothing and have no notice. Every channel has been converted once from its code of the first full scan: its
standing is by its window, a valid code gives the position (with valid geometry), the load or the level, the sides are
agreed and the head formed, the load-watch counters are 0, no scan is in progress and the next starts 10 ms on. That the
start-up runs whole in one command is the model's choice (notes/assumptions 3), and that the scan timer starts at its end,
at 10 ms, is deduced (notes/assumptions 37). -/
def Obligations.DeviceReset : Prop :=
  ∀ (w : ResetWorld) (s : State),
    (w.causes.power = true ∨ w.causes.brownout = true ∨ w.causes.pin = true) →
    let found {α : Type} (f : AreaFound) (stored flight : Option α) : Option α := match f with
      | .asStored => stored
      | .asWritten => flight.orElse fun _ => stored
      | .damaged => none
    let settingsArea := found w.settingsArea s.nvs.settingsArea
      (match s.nvs.flight with | some (.settings st) => some st | _ => none)
    let isolationArea := found w.isolationArea s.nvs.isolationArea
      (match s.nvs.flight with | some (.isolation im) => some im | _ => none)
    ∃ t, exec (.deviceReset w) s = .next t ∧ t.started = true ∧
      t.store = { queues := .const [], nextNumber := 1, acceptCount := 0, sets := [], nextSet := 1 } ∧
      t.clock = { value := 0, isSet := false, second := some 1000 } ∧
      t.supply = { st := .run, source := if s.lines.mainsOk then .mains else .battery, phase := none,
                   cause := if w.causes.power || (w.causes.brownout && w.causes.pin) then .power
                     else if w.causes.brownout then .brownout else .pin,
                   driveSupply := true } ∧
      t.arbiter = { limit := if s.lines.mainsOk then t.settings.site.limitMains else t.settings.site.limitBattery,
                    holders := [], waiters := [], fresh := [], due := false } ∧
      t.lines = s.lines ∧ t.seat = (if s.lines.localKey then .panel else .station) ∧ t.holdAll = false ∧
      t.address = w.straps.address.toNat ∧ t.baud = w.straps.baud.toNat ∧
      (∀ st, settingsArea = some st → settingsOk st = true → t.settings = st ∧ t.nvs.settingsLost = false) ∧
      ((∀ st, settingsArea = some st → settingsOk st = false) →
        t.settings = defaultSettings ∧ t.nvs.settingsLost = true) ∧
      (∀ im, isolationArea = some im → t.isolations.doubt = im.doubt ∧
        t.isolations.entries.map (fun e => { e with placement := 0 }) =
          im.entries.map fun e => { toIsoRecord := { e with placement := 0 }, kept := true }) ∧
      (isolationArea = none → t.isolations.doubt = true ∧ t.isolations.entries = []) ∧
      t.nvs.settingsArea = settingsArea ∧ t.nvs.isolationArea = isolationArea ∧ t.nvs.flight = none ∧
      t.nvs.settingsJob = false ∧ t.nvs.isolationJob = false ∧
      (∀ q, t.link q = { rx := .hunt, buffer := [], gap := none, request := none, delay := none, notices := .none }) ∧
      t.pending = s.pending ∧
      (let inWindow (ch : Channel) : Bool := decide ((t.settings.site.windows.get ch).low ≤ (w.codes.get ch).toNat) &&
          decide ((w.codes.get ch).toNat ≤ (t.settings.site.windows.get ch).high)
       let standing (ch : Channel) : Standing := if inWindow ch then .valid else .invalid
       (∀ g d,
         let m := t.hoistMeas g d
         let lc := ((t.geo g).loadCal.get d).getD ⟨819, 4095⟩
         m.posRaw = w.codes.get (.position g d) ∧ m.posStanding = standing (.position g d) ∧
         m.posValid = (geometryValid (t.geo g) && inWindow (.position g d)) ∧
         (m.posValid = false → m.position = none ∧ m.outOfBounds = false) ∧
         (∀ cal x, (t.geo g).posCal.get d = some cal → m.posValid = true →
           x = roundDiv ((((w.codes.get (.position g d)).toNat : Int) - cal.c0) * (t.fullTravel g : Int))
             ((cal.c1 : Int) - cal.c0) →
           m.position = some x ∧ (m.outOfBounds = true ↔ x < -250 ∨ (t.fullTravel g : Int) + 250 < x)) ∧
         m.loadRaw = w.codes.get (.load g d) ∧ m.loadStanding = standing (.load g d) ∧
         (m.load : Int) = (if inWindow (.load g d) then max 0 (min 2000
           (roundDiv (2000 * (((w.codes.get (.load g d)).toNat : Int) - lc.c0)) ((lc.c1 : Int) - lc.c0))) else 0) ∧
         m.overload = 0 ∧ m.slack = 0) ∧
       (∀ side n,
         let cal := (t.settings.site.gauges.get side).get n
         (t.measure.gauges.get side).get n =
           { raw := w.codes.get (.gauge side n), standing := standing (.gauge side n),
             level := if inWindow (.gauge side n) then max (-5000) (min 15000 (cal.l0 +
               roundDiv ((((w.codes.get (.gauge side n)).toNat : Int) - cal.z0) * (cal.l1 - cal.l0))
                 ((cal.z1 : Int) - cal.z0))) else 0 }) ∧
       (∀ side,
         let a := (t.measure.gauges.get side).a.level
         let b := (t.measure.gauges.get side).b.level
         t.measure.sides.get side =
           (if inWindow (.gauge side .a) then
             if inWindow (.gauge side .b) then
               if (a - b).natAbs ≤ t.settings.site.tolerance then { agreed := (a + b).tdiv 2, quality := .good }
               else { agreed := a, quality := .disputed }
             else { agreed := a, quality := .single }
           else if inWindow (.gauge side .b) then { agreed := b, quality := .single }
           else { agreed := 0, quality := .lost })) ∧
       t.measure.head = t.measure.sides.up.agreed - t.measure.sides.down.agreed ∧
       (t.measure.headDisputed = false ↔
         t.measure.sides.up.quality ∈ [Quality.good, .single] ∧ t.measure.sides.down.quality ∈ [Quality.good, .single]) ∧
       t.measure.scan = none ∧ t.measure.scanTimer = some 10 ∧ t.measure.fullDue = false)

/-- The gates after a device reset: all outputs off, no order and no last outcome; without valid geometry DISABLED; with it,
FAULT where a position code of the first scan lies outside its window or ESTOP is asserted, and else IDLE without a fault
record. The fault is of kind POSITION where a code is outside, with the ESTOP counted as a further fault, and ESTOP where
both codes are inside. -/
def Obligations.GatesAfterReset : Prop :=
  ∀ (w : ResetWorld) (s : State),
    (w.causes.power = true ∨ w.causes.brownout = true ∨ w.causes.pin = true) →
    ∃ t, exec (.deviceReset w) s = .next t ∧ ∀ g,
      let bad (d : Side) : Prop :=
        ((w.codes.position.get g).get d).toNat < (t.settings.site.windows.get (.position g d)).low ∨
          (t.settings.site.windows.get (.position g d)).high < ((w.codes.position.get g).get d).toNat
      (t.gate g).hoists = ⟨.off, .off⟩ ∧ (t.gate g).link = none ∧ (t.gate g).outcome = none ∧
      (t.gate g).vPrev = 0 ∧ (t.gate g).settle = 0 ∧ (t.gate g).window = none ∧
      (geometryValid (t.geo g) = false → (t.gate g).st = .disabled ∧ (t.gate g).fault = none) ∧
      (geometryValid (t.geo g) = true → ¬ bad .left → ¬ bad .right → s.lines.estop = false →
        (t.gate g).st = .idle ∧ (t.gate g).fault = none) ∧
      (geometryValid (t.geo g) = true → ¬ bad .left → ¬ bad .right → s.lines.estop = true →
        (t.gate g).st = .fault ∧
        (t.gate g).fault = some { kind := .estop, hoist := .both, second := none, further := 0 }) ∧
      (geometryValid (t.geo g) = true → bad .left ∨ bad .right →
        (t.gate g).st = .fault ∧
        ∃ h, (t.gate g).fault = some { kind := .position, hoist := h, second := none,
                                       further := if s.lines.estop then 1 else 0 } ∧
          (h = .left ↔ bad .left ∧ ¬ bad .right) ∧ (h = .right ↔ ¬ bad .left ∧ bad .right))

/-- The state at reset meets every invariant that the statements below say each step keeps. The levels of its lines with the
seat and the source that follow them, its empty areas and its working copy are the model's choices (notes/assumptions 4, 5
and 6). -/
def Obligations.ResetMeetsTheInvariants : Prop :=
  State.reset.hoistsSafe ∧ State.reset.settingsSound ∧ State.reset.isolationsSound ∧ State.reset.holdsSound ∧
    State.reset.targetsSound ∧ State.reset.quotasHeld ∧ State.reset.numbersDistinct ∧ State.reset.queuesRanked ∧
    State.reset.setsSound ∧ State.reset.linksSound ∧ State.reset.slotsSound ∧ State.reset.limitHeld ∧ State.reset.linesFollowed ∧ State.reset.disabledSound

/-! ### Invariants that every step keeps -/

/-- No output of a gate is active under an inhibit; no hoist has a direction without its brake lifted, or outside TRAVEL and
TRIM; and every duty is 0, exactly with no direction, or lies from Dmin to 1000. Every step keeps this, with the settings in
their ranges. -/
def Obligations.HoistsStaySafe : Prop :=
  ∀ s t : State, s.hoistsSafe → s.settingsSound → step s = .next t → t.hoistsSafe ∧ t.settingsSound

/-- The isolation table, and every image of it in the store, keeps at most 24 entries, their fields in range, and no two with
the same code and scope. -/
def Obligations.IsolationsStaySound : Prop :=
  ∀ s t : State, s.isolationsSound → step s = .next t → t.isolationsSound

/-- An order's hold set is non-empty exactly while the order is HELD; and every live order's target stays between 0 and its
gate's full travel. -/
def Obligations.OrdersStaySound : Prop :=
  ∀ s t : State, step s = .next t →
    (s.holdsSound → t.holdsSound) ∧ (s.targetsSound → t.targetsSound)

/-- Every queue stands in the one order of R42: higher classes ahead, and in a class the smaller acceptance sequence, no two
live orders having the same; with the quotas held and the order numbers distinct beside it. -/
def Obligations.QueuesStayRanked : Prop :=
  ∀ s t : State, s.quotasHeld → s.numbersDistinct → s.queuesRanked → step s = .next t →
    t.quotasHeld ∧ t.numbersDistinct ∧ t.queuesRanked

/-- The set table stays as R55 gives it: at most 24 sets, no two with the same number, the members of each live orders on
distinct gates that name the set as theirs. And each gate's link stays as R81 gives it: an order is IN_FORCE or HELD exactly
while its gate's link names it, and a gate in DISABLED, IDLE, TRIM or FAULT has no order in force. -/
def Obligations.SetsAndLinksStaySound : Prop :=
  ∀ s t : State, s.quotasHeld → s.numbersDistinct → step s = .next t →
    (s.setsSound → t.setsSound) ∧ (s.linksSound → t.linksSound)

/-- The wait list holds exactly the gates in WAIT_GRANT, and the holders are exactly the gates in RELEASING, TRAVEL,
REVERSING, STOPPING and TRIM, no gate twice; the drive limit is the one its table gives, and the running holders never
outnumber it. -/
def Obligations.SlotsStaySound : Prop :=
  ∀ s t : State, s.slotsSound → s.limitHeld → step s = .next t → t.slotsSound ∧ t.limitHeld

/-- The seat follows LOCAL, the source follows MAINS_OK, DRIVE_SUPPLY is on exactly in RUN and WAKING, and after start-up a
gate is in DISABLED exactly while its geometry is not valid. -/
def Obligations.LinesStayFollowed : Prop :=
  ∀ s t : State, s.linesFollowed → s.slotsSound → s.disabledSound → step s = .next t →
    t.linesFollowed ∧ t.disabledSound
end

