-- ==== Sys2Proof/Laws/State.lean ====
section
/-! SUPPORT. The small lemmas of State: reading a container after a write to it, and each field after each update, true by
`rfl`, so that no later proof unfolds a record update. -/

namespace Sys2Proof

/-! ### Containers -/

@[simp] theorem PerGate.get_const {α : Type} (a : α) (g : Gate) : (PerGate.const a).get g = a := by cases g <;> rfl

@[simp] theorem PerGate.get_set_self {α : Type} (p : PerGate α) (g : Gate) (a : α) : (p.set g a).get g = a := by
  cases g <;> rfl

theorem PerGate.get_set_ne {α : Type} (p : PerGate α) {g h : Gate} (a : α) (hne : h ≠ g) :
    (p.set g a).get h = p.get h := by
  cases g <;> cases h <;> first | rfl | exact absurd rfl hne

theorem PerGate.get_set {α : Type} (p : PerGate α) (g h : Gate) (a : α) :
    (p.set g a).get h = if h = g then a else p.get h := by
  cases g <;> cases h <;> rfl

@[simp] theorem PerGate.set_get {α : Type} (p : PerGate α) (g : Gate) : p.set g (p.get g) = p := by cases g <;> rfl

theorem PerGate.ext_get {α : Type} {p q : PerGate α} (h : ∀ g, p.get g = q.get g) : p = q := by
  cases p
  cases q
  have h1 := h .g1
  have h2 := h .g2
  have h3 := h .g3
  have h4 := h .g4
  have h5 := h .g5
  have h6 := h .g6
  simp only [PerGate.get] at h1 h2 h3 h4 h5 h6
  subst h1 h2 h3 h4 h5 h6
  rfl

@[simp] theorem Sides.get_set_self {α : Type} (p : Sides α) (d : Side) (a : α) : (p.set d a).get d = a := by
  cases d <;> rfl

theorem Sides.get_set {α : Type} (p : Sides α) (d e : Side) (a : α) :
    (p.set d a).get e = if e = d then a else p.get e := by
  cases d <;> cases e <;> rfl

@[simp] theorem Weirs.get_set_self {α : Type} (p : Weirs α) (w : Weir) (a : α) : (p.set w a).get w = a := by
  cases w <;> rfl

theorem Weirs.get_set {α : Type} (p : Weirs α) (w v : Weir) (a : α) :
    (p.set w a).get v = if v = w then a else p.get v := by
  cases w <;> cases v <;> rfl

@[simp] theorem Pair.get_set_self {α : Type} (p : Pair α) (n : GaugeName) (a : α) : (p.set n a).get n = a := by
  cases n <;> rfl

@[simp] theorem Ports.get_set_self {α : Type} (p : Ports α) (q : Port) (a : α) : (p.set q a).get q = a := by
  cases q <;> rfl

theorem Ports.get_set {α : Type} (p : Ports α) (q r : Port) (a : α) :
    (p.set q a).get r = if r = q then a else p.get r := by
  cases q <;> cases r <;> rfl

@[simp] theorem Gate.mem_all (g : Gate) : g ∈ Gate.all := by cases g <;> decide

end Sys2Proof

namespace Sys2Proof.Machine

/-! ### updGate -/

@[simp] theorem State.updGate_measure (s : State) (g : Gate) (f : GateSeq → GateSeq) : (s.updGate g f).measure = s.measure := rfl

@[simp] theorem State.updGate_store (s : State) (g : Gate) (f : GateSeq → GateSeq) : (s.updGate g f).store = s.store := rfl

@[simp] theorem State.updGate_clock (s : State) (g : Gate) (f : GateSeq → GateSeq) : (s.updGate g f).clock = s.clock := rfl

@[simp] theorem State.updGate_holdAll (s : State) (g : Gate) (f : GateSeq → GateSeq) : (s.updGate g f).holdAll = s.holdAll := rfl

@[simp] theorem State.updGate_arbiter (s : State) (g : Gate) (f : GateSeq → GateSeq) : (s.updGate g f).arbiter = s.arbiter := rfl

@[simp] theorem State.updGate_supply (s : State) (g : Gate) (f : GateSeq → GateSeq) : (s.updGate g f).supply = s.supply := rfl

@[simp] theorem State.updGate_isolations (s : State) (g : Gate) (f : GateSeq → GateSeq) : (s.updGate g f).isolations = s.isolations := rfl

@[simp] theorem State.updGate_nvs (s : State) (g : Gate) (f : GateSeq → GateSeq) : (s.updGate g f).nvs = s.nvs := rfl

@[simp] theorem State.updGate_links (s : State) (g : Gate) (f : GateSeq → GateSeq) : (s.updGate g f).links = s.links := rfl

@[simp] theorem State.updGate_address (s : State) (g : Gate) (f : GateSeq → GateSeq) : (s.updGate g f).address = s.address := rfl

@[simp] theorem State.updGate_baud (s : State) (g : Gate) (f : GateSeq → GateSeq) : (s.updGate g f).baud = s.baud := rfl

@[simp] theorem State.updGate_seat (s : State) (g : Gate) (f : GateSeq → GateSeq) : (s.updGate g f).seat = s.seat := rfl

@[simp] theorem State.updGate_settings (s : State) (g : Gate) (f : GateSeq → GateSeq) : (s.updGate g f).settings = s.settings := rfl

@[simp] theorem State.updGate_lines (s : State) (g : Gate) (f : GateSeq → GateSeq) : (s.updGate g f).lines = s.lines := rfl

@[simp] theorem State.updGate_started (s : State) (g : Gate) (f : GateSeq → GateSeq) : (s.updGate g f).started = s.started := rfl

@[simp] theorem State.updGate_freeCount (s : State) (g : Gate) (f : GateSeq → GateSeq) : (s.updGate g f).freeCount = s.freeCount := rfl

@[simp] theorem State.updGate_pending (s : State) (g : Gate) (f : GateSeq → GateSeq) : (s.updGate g f).pending = s.pending := rfl

/-! ### updQueue -/

@[simp] theorem State.updQueue_measure (s : State) (g : Gate) (f : List Order → List Order) : (s.updQueue g f).measure = s.measure := rfl

@[simp] theorem State.updQueue_clock (s : State) (g : Gate) (f : List Order → List Order) : (s.updQueue g f).clock = s.clock := rfl

@[simp] theorem State.updQueue_gates (s : State) (g : Gate) (f : List Order → List Order) : (s.updQueue g f).gates = s.gates := rfl

@[simp] theorem State.updQueue_holdAll (s : State) (g : Gate) (f : List Order → List Order) : (s.updQueue g f).holdAll = s.holdAll := rfl

@[simp] theorem State.updQueue_arbiter (s : State) (g : Gate) (f : List Order → List Order) : (s.updQueue g f).arbiter = s.arbiter := rfl

@[simp] theorem State.updQueue_supply (s : State) (g : Gate) (f : List Order → List Order) : (s.updQueue g f).supply = s.supply := rfl

@[simp] theorem State.updQueue_isolations (s : State) (g : Gate) (f : List Order → List Order) : (s.updQueue g f).isolations = s.isolations := rfl

@[simp] theorem State.updQueue_nvs (s : State) (g : Gate) (f : List Order → List Order) : (s.updQueue g f).nvs = s.nvs := rfl

@[simp] theorem State.updQueue_links (s : State) (g : Gate) (f : List Order → List Order) : (s.updQueue g f).links = s.links := rfl

@[simp] theorem State.updQueue_address (s : State) (g : Gate) (f : List Order → List Order) : (s.updQueue g f).address = s.address := rfl

@[simp] theorem State.updQueue_baud (s : State) (g : Gate) (f : List Order → List Order) : (s.updQueue g f).baud = s.baud := rfl

@[simp] theorem State.updQueue_seat (s : State) (g : Gate) (f : List Order → List Order) : (s.updQueue g f).seat = s.seat := rfl

@[simp] theorem State.updQueue_settings (s : State) (g : Gate) (f : List Order → List Order) : (s.updQueue g f).settings = s.settings := rfl

@[simp] theorem State.updQueue_lines (s : State) (g : Gate) (f : List Order → List Order) : (s.updQueue g f).lines = s.lines := rfl

@[simp] theorem State.updQueue_started (s : State) (g : Gate) (f : List Order → List Order) : (s.updQueue g f).started = s.started := rfl

@[simp] theorem State.updQueue_freeCount (s : State) (g : Gate) (f : List Order → List Order) : (s.updQueue g f).freeCount = s.freeCount := rfl

@[simp] theorem State.updQueue_pending (s : State) (g : Gate) (f : List Order → List Order) : (s.updQueue g f).pending = s.pending := rfl

/-! ### updOrder -/

@[simp] theorem State.updOrder_measure (s : State) (g : Gate) (n : Nat) (f : Order → Order) : (s.updOrder g n f).measure = s.measure := rfl

@[simp] theorem State.updOrder_clock (s : State) (g : Gate) (n : Nat) (f : Order → Order) : (s.updOrder g n f).clock = s.clock := rfl

@[simp] theorem State.updOrder_gates (s : State) (g : Gate) (n : Nat) (f : Order → Order) : (s.updOrder g n f).gates = s.gates := rfl

@[simp] theorem State.updOrder_holdAll (s : State) (g : Gate) (n : Nat) (f : Order → Order) : (s.updOrder g n f).holdAll = s.holdAll := rfl

@[simp] theorem State.updOrder_arbiter (s : State) (g : Gate) (n : Nat) (f : Order → Order) : (s.updOrder g n f).arbiter = s.arbiter := rfl

@[simp] theorem State.updOrder_supply (s : State) (g : Gate) (n : Nat) (f : Order → Order) : (s.updOrder g n f).supply = s.supply := rfl

@[simp] theorem State.updOrder_isolations (s : State) (g : Gate) (n : Nat) (f : Order → Order) : (s.updOrder g n f).isolations = s.isolations := rfl

@[simp] theorem State.updOrder_nvs (s : State) (g : Gate) (n : Nat) (f : Order → Order) : (s.updOrder g n f).nvs = s.nvs := rfl

@[simp] theorem State.updOrder_links (s : State) (g : Gate) (n : Nat) (f : Order → Order) : (s.updOrder g n f).links = s.links := rfl

@[simp] theorem State.updOrder_address (s : State) (g : Gate) (n : Nat) (f : Order → Order) : (s.updOrder g n f).address = s.address := rfl

@[simp] theorem State.updOrder_baud (s : State) (g : Gate) (n : Nat) (f : Order → Order) : (s.updOrder g n f).baud = s.baud := rfl

@[simp] theorem State.updOrder_seat (s : State) (g : Gate) (n : Nat) (f : Order → Order) : (s.updOrder g n f).seat = s.seat := rfl

@[simp] theorem State.updOrder_settings (s : State) (g : Gate) (n : Nat) (f : Order → Order) : (s.updOrder g n f).settings = s.settings := rfl

@[simp] theorem State.updOrder_lines (s : State) (g : Gate) (n : Nat) (f : Order → Order) : (s.updOrder g n f).lines = s.lines := rfl

@[simp] theorem State.updOrder_started (s : State) (g : Gate) (n : Nat) (f : Order → Order) : (s.updOrder g n f).started = s.started := rfl

@[simp] theorem State.updOrder_freeCount (s : State) (g : Gate) (n : Nat) (f : Order → Order) : (s.updOrder g n f).freeCount = s.freeCount := rfl

@[simp] theorem State.updOrder_pending (s : State) (g : Gate) (n : Nat) (f : Order → Order) : (s.updOrder g n f).pending = s.pending := rfl

/-! ### updSets -/

@[simp] theorem State.updSets_measure (s : State) (f : List SetRec → List SetRec) : (s.updSets f).measure = s.measure := rfl

@[simp] theorem State.updSets_clock (s : State) (f : List SetRec → List SetRec) : (s.updSets f).clock = s.clock := rfl

@[simp] theorem State.updSets_gates (s : State) (f : List SetRec → List SetRec) : (s.updSets f).gates = s.gates := rfl

@[simp] theorem State.updSets_holdAll (s : State) (f : List SetRec → List SetRec) : (s.updSets f).holdAll = s.holdAll := rfl

@[simp] theorem State.updSets_arbiter (s : State) (f : List SetRec → List SetRec) : (s.updSets f).arbiter = s.arbiter := rfl

@[simp] theorem State.updSets_supply (s : State) (f : List SetRec → List SetRec) : (s.updSets f).supply = s.supply := rfl

@[simp] theorem State.updSets_isolations (s : State) (f : List SetRec → List SetRec) : (s.updSets f).isolations = s.isolations := rfl

@[simp] theorem State.updSets_nvs (s : State) (f : List SetRec → List SetRec) : (s.updSets f).nvs = s.nvs := rfl

@[simp] theorem State.updSets_links (s : State) (f : List SetRec → List SetRec) : (s.updSets f).links = s.links := rfl

@[simp] theorem State.updSets_address (s : State) (f : List SetRec → List SetRec) : (s.updSets f).address = s.address := rfl

@[simp] theorem State.updSets_baud (s : State) (f : List SetRec → List SetRec) : (s.updSets f).baud = s.baud := rfl

@[simp] theorem State.updSets_seat (s : State) (f : List SetRec → List SetRec) : (s.updSets f).seat = s.seat := rfl

@[simp] theorem State.updSets_settings (s : State) (f : List SetRec → List SetRec) : (s.updSets f).settings = s.settings := rfl

@[simp] theorem State.updSets_lines (s : State) (f : List SetRec → List SetRec) : (s.updSets f).lines = s.lines := rfl

@[simp] theorem State.updSets_started (s : State) (f : List SetRec → List SetRec) : (s.updSets f).started = s.started := rfl

@[simp] theorem State.updSets_freeCount (s : State) (f : List SetRec → List SetRec) : (s.updSets f).freeCount = s.freeCount := rfl

@[simp] theorem State.updSets_pending (s : State) (f : List SetRec → List SetRec) : (s.updSets f).pending = s.pending := rfl

/-! ### updHoistMeas -/

@[simp] theorem State.updHoistMeas_store (s : State) (g : Gate) (d : Side) (f : HoistMeas → HoistMeas) : (s.updHoistMeas g d f).store = s.store := rfl

@[simp] theorem State.updHoistMeas_clock (s : State) (g : Gate) (d : Side) (f : HoistMeas → HoistMeas) : (s.updHoistMeas g d f).clock = s.clock := rfl

@[simp] theorem State.updHoistMeas_gates (s : State) (g : Gate) (d : Side) (f : HoistMeas → HoistMeas) : (s.updHoistMeas g d f).gates = s.gates := rfl

@[simp] theorem State.updHoistMeas_holdAll (s : State) (g : Gate) (d : Side) (f : HoistMeas → HoistMeas) : (s.updHoistMeas g d f).holdAll = s.holdAll := rfl

@[simp] theorem State.updHoistMeas_arbiter (s : State) (g : Gate) (d : Side) (f : HoistMeas → HoistMeas) : (s.updHoistMeas g d f).arbiter = s.arbiter := rfl

@[simp] theorem State.updHoistMeas_supply (s : State) (g : Gate) (d : Side) (f : HoistMeas → HoistMeas) : (s.updHoistMeas g d f).supply = s.supply := rfl

@[simp] theorem State.updHoistMeas_isolations (s : State) (g : Gate) (d : Side) (f : HoistMeas → HoistMeas) : (s.updHoistMeas g d f).isolations = s.isolations := rfl

@[simp] theorem State.updHoistMeas_nvs (s : State) (g : Gate) (d : Side) (f : HoistMeas → HoistMeas) : (s.updHoistMeas g d f).nvs = s.nvs := rfl

@[simp] theorem State.updHoistMeas_links (s : State) (g : Gate) (d : Side) (f : HoistMeas → HoistMeas) : (s.updHoistMeas g d f).links = s.links := rfl

@[simp] theorem State.updHoistMeas_address (s : State) (g : Gate) (d : Side) (f : HoistMeas → HoistMeas) : (s.updHoistMeas g d f).address = s.address := rfl

@[simp] theorem State.updHoistMeas_baud (s : State) (g : Gate) (d : Side) (f : HoistMeas → HoistMeas) : (s.updHoistMeas g d f).baud = s.baud := rfl

@[simp] theorem State.updHoistMeas_seat (s : State) (g : Gate) (d : Side) (f : HoistMeas → HoistMeas) : (s.updHoistMeas g d f).seat = s.seat := rfl

@[simp] theorem State.updHoistMeas_settings (s : State) (g : Gate) (d : Side) (f : HoistMeas → HoistMeas) : (s.updHoistMeas g d f).settings = s.settings := rfl

@[simp] theorem State.updHoistMeas_lines (s : State) (g : Gate) (d : Side) (f : HoistMeas → HoistMeas) : (s.updHoistMeas g d f).lines = s.lines := rfl

@[simp] theorem State.updHoistMeas_started (s : State) (g : Gate) (d : Side) (f : HoistMeas → HoistMeas) : (s.updHoistMeas g d f).started = s.started := rfl

@[simp] theorem State.updHoistMeas_freeCount (s : State) (g : Gate) (d : Side) (f : HoistMeas → HoistMeas) : (s.updHoistMeas g d f).freeCount = s.freeCount := rfl

@[simp] theorem State.updHoistMeas_pending (s : State) (g : Gate) (d : Side) (f : HoistMeas → HoistMeas) : (s.updHoistMeas g d f).pending = s.pending := rfl

/-! ### updLink -/

@[simp] theorem State.updLink_measure (s : State) (p : Port) (f : Link → Link) : (s.updLink p f).measure = s.measure := rfl

@[simp] theorem State.updLink_store (s : State) (p : Port) (f : Link → Link) : (s.updLink p f).store = s.store := rfl

@[simp] theorem State.updLink_clock (s : State) (p : Port) (f : Link → Link) : (s.updLink p f).clock = s.clock := rfl

@[simp] theorem State.updLink_gates (s : State) (p : Port) (f : Link → Link) : (s.updLink p f).gates = s.gates := rfl

@[simp] theorem State.updLink_holdAll (s : State) (p : Port) (f : Link → Link) : (s.updLink p f).holdAll = s.holdAll := rfl

@[simp] theorem State.updLink_arbiter (s : State) (p : Port) (f : Link → Link) : (s.updLink p f).arbiter = s.arbiter := rfl

@[simp] theorem State.updLink_supply (s : State) (p : Port) (f : Link → Link) : (s.updLink p f).supply = s.supply := rfl

@[simp] theorem State.updLink_isolations (s : State) (p : Port) (f : Link → Link) : (s.updLink p f).isolations = s.isolations := rfl

@[simp] theorem State.updLink_nvs (s : State) (p : Port) (f : Link → Link) : (s.updLink p f).nvs = s.nvs := rfl

@[simp] theorem State.updLink_address (s : State) (p : Port) (f : Link → Link) : (s.updLink p f).address = s.address := rfl

@[simp] theorem State.updLink_baud (s : State) (p : Port) (f : Link → Link) : (s.updLink p f).baud = s.baud := rfl

@[simp] theorem State.updLink_seat (s : State) (p : Port) (f : Link → Link) : (s.updLink p f).seat = s.seat := rfl

@[simp] theorem State.updLink_settings (s : State) (p : Port) (f : Link → Link) : (s.updLink p f).settings = s.settings := rfl

@[simp] theorem State.updLink_lines (s : State) (p : Port) (f : Link → Link) : (s.updLink p f).lines = s.lines := rfl

@[simp] theorem State.updLink_started (s : State) (p : Port) (f : Link → Link) : (s.updLink p f).started = s.started := rfl

@[simp] theorem State.updLink_freeCount (s : State) (p : Port) (f : Link → Link) : (s.updLink p f).freeCount = s.freeCount := rfl

@[simp] theorem State.updLink_pending (s : State) (p : Port) (f : Link → Link) : (s.updLink p f).pending = s.pending := rfl

/-! ### updArbiter -/

@[simp] theorem State.updArbiter_measure (s : State) (f : Arbiter → Arbiter) : (s.updArbiter f).measure = s.measure := rfl

@[simp] theorem State.updArbiter_store (s : State) (f : Arbiter → Arbiter) : (s.updArbiter f).store = s.store := rfl

@[simp] theorem State.updArbiter_clock (s : State) (f : Arbiter → Arbiter) : (s.updArbiter f).clock = s.clock := rfl

@[simp] theorem State.updArbiter_gates (s : State) (f : Arbiter → Arbiter) : (s.updArbiter f).gates = s.gates := rfl

@[simp] theorem State.updArbiter_holdAll (s : State) (f : Arbiter → Arbiter) : (s.updArbiter f).holdAll = s.holdAll := rfl

@[simp] theorem State.updArbiter_supply (s : State) (f : Arbiter → Arbiter) : (s.updArbiter f).supply = s.supply := rfl

@[simp] theorem State.updArbiter_isolations (s : State) (f : Arbiter → Arbiter) : (s.updArbiter f).isolations = s.isolations := rfl

@[simp] theorem State.updArbiter_nvs (s : State) (f : Arbiter → Arbiter) : (s.updArbiter f).nvs = s.nvs := rfl

@[simp] theorem State.updArbiter_links (s : State) (f : Arbiter → Arbiter) : (s.updArbiter f).links = s.links := rfl

@[simp] theorem State.updArbiter_address (s : State) (f : Arbiter → Arbiter) : (s.updArbiter f).address = s.address := rfl

@[simp] theorem State.updArbiter_baud (s : State) (f : Arbiter → Arbiter) : (s.updArbiter f).baud = s.baud := rfl

@[simp] theorem State.updArbiter_seat (s : State) (f : Arbiter → Arbiter) : (s.updArbiter f).seat = s.seat := rfl

@[simp] theorem State.updArbiter_settings (s : State) (f : Arbiter → Arbiter) : (s.updArbiter f).settings = s.settings := rfl

@[simp] theorem State.updArbiter_lines (s : State) (f : Arbiter → Arbiter) : (s.updArbiter f).lines = s.lines := rfl

@[simp] theorem State.updArbiter_started (s : State) (f : Arbiter → Arbiter) : (s.updArbiter f).started = s.started := rfl

@[simp] theorem State.updArbiter_freeCount (s : State) (f : Arbiter → Arbiter) : (s.updArbiter f).freeCount = s.freeCount := rfl

@[simp] theorem State.updArbiter_pending (s : State) (f : Arbiter → Arbiter) : (s.updArbiter f).pending = s.pending := rfl

/-! ### updEntries -/

@[simp] theorem State.updEntries_measure (s : State) (f : List IsoEntry → List IsoEntry) : (s.updEntries f).measure = s.measure := rfl

@[simp] theorem State.updEntries_store (s : State) (f : List IsoEntry → List IsoEntry) : (s.updEntries f).store = s.store := rfl

@[simp] theorem State.updEntries_clock (s : State) (f : List IsoEntry → List IsoEntry) : (s.updEntries f).clock = s.clock := rfl

@[simp] theorem State.updEntries_gates (s : State) (f : List IsoEntry → List IsoEntry) : (s.updEntries f).gates = s.gates := rfl

@[simp] theorem State.updEntries_holdAll (s : State) (f : List IsoEntry → List IsoEntry) : (s.updEntries f).holdAll = s.holdAll := rfl

@[simp] theorem State.updEntries_arbiter (s : State) (f : List IsoEntry → List IsoEntry) : (s.updEntries f).arbiter = s.arbiter := rfl

@[simp] theorem State.updEntries_supply (s : State) (f : List IsoEntry → List IsoEntry) : (s.updEntries f).supply = s.supply := rfl

@[simp] theorem State.updEntries_nvs (s : State) (f : List IsoEntry → List IsoEntry) : (s.updEntries f).nvs = s.nvs := rfl

@[simp] theorem State.updEntries_links (s : State) (f : List IsoEntry → List IsoEntry) : (s.updEntries f).links = s.links := rfl

@[simp] theorem State.updEntries_address (s : State) (f : List IsoEntry → List IsoEntry) : (s.updEntries f).address = s.address := rfl

@[simp] theorem State.updEntries_baud (s : State) (f : List IsoEntry → List IsoEntry) : (s.updEntries f).baud = s.baud := rfl

@[simp] theorem State.updEntries_seat (s : State) (f : List IsoEntry → List IsoEntry) : (s.updEntries f).seat = s.seat := rfl

@[simp] theorem State.updEntries_settings (s : State) (f : List IsoEntry → List IsoEntry) : (s.updEntries f).settings = s.settings := rfl

@[simp] theorem State.updEntries_lines (s : State) (f : List IsoEntry → List IsoEntry) : (s.updEntries f).lines = s.lines := rfl

@[simp] theorem State.updEntries_started (s : State) (f : List IsoEntry → List IsoEntry) : (s.updEntries f).started = s.started := rfl

@[simp] theorem State.updEntries_freeCount (s : State) (f : List IsoEntry → List IsoEntry) : (s.updEntries f).freeCount = s.freeCount := rfl

@[simp] theorem State.updEntries_pending (s : State) (f : List IsoEntry → List IsoEntry) : (s.updEntries f).pending = s.pending := rfl

/-! ### withPending -/

@[simp] theorem State.withPending_measure (s : State) (l : List Instr) : (s.withPending l).measure = s.measure := rfl

@[simp] theorem State.withPending_store (s : State) (l : List Instr) : (s.withPending l).store = s.store := rfl

@[simp] theorem State.withPending_clock (s : State) (l : List Instr) : (s.withPending l).clock = s.clock := rfl

@[simp] theorem State.withPending_gates (s : State) (l : List Instr) : (s.withPending l).gates = s.gates := rfl

@[simp] theorem State.withPending_holdAll (s : State) (l : List Instr) : (s.withPending l).holdAll = s.holdAll := rfl

@[simp] theorem State.withPending_arbiter (s : State) (l : List Instr) : (s.withPending l).arbiter = s.arbiter := rfl

@[simp] theorem State.withPending_supply (s : State) (l : List Instr) : (s.withPending l).supply = s.supply := rfl

@[simp] theorem State.withPending_isolations (s : State) (l : List Instr) : (s.withPending l).isolations = s.isolations := rfl

@[simp] theorem State.withPending_nvs (s : State) (l : List Instr) : (s.withPending l).nvs = s.nvs := rfl

@[simp] theorem State.withPending_links (s : State) (l : List Instr) : (s.withPending l).links = s.links := rfl

@[simp] theorem State.withPending_address (s : State) (l : List Instr) : (s.withPending l).address = s.address := rfl

@[simp] theorem State.withPending_baud (s : State) (l : List Instr) : (s.withPending l).baud = s.baud := rfl

@[simp] theorem State.withPending_seat (s : State) (l : List Instr) : (s.withPending l).seat = s.seat := rfl

@[simp] theorem State.withPending_settings (s : State) (l : List Instr) : (s.withPending l).settings = s.settings := rfl

@[simp] theorem State.withPending_lines (s : State) (l : List Instr) : (s.withPending l).lines = s.lines := rfl

@[simp] theorem State.withPending_started (s : State) (l : List Instr) : (s.withPending l).started = s.started := rfl

@[simp] theorem State.withPending_freeCount (s : State) (l : List Instr) : (s.withPending l).freeCount = s.freeCount := rfl

/-! ### raiseNotice -/

@[simp] theorem raiseNotice_measure (s : State) (f : NoticeSet → NoticeSet) : (raiseNotice f s).measure = s.measure := rfl

@[simp] theorem raiseNotice_store (s : State) (f : NoticeSet → NoticeSet) : (raiseNotice f s).store = s.store := rfl

@[simp] theorem raiseNotice_clock (s : State) (f : NoticeSet → NoticeSet) : (raiseNotice f s).clock = s.clock := rfl

@[simp] theorem raiseNotice_gates (s : State) (f : NoticeSet → NoticeSet) : (raiseNotice f s).gates = s.gates := rfl

@[simp] theorem raiseNotice_holdAll (s : State) (f : NoticeSet → NoticeSet) : (raiseNotice f s).holdAll = s.holdAll := rfl

@[simp] theorem raiseNotice_arbiter (s : State) (f : NoticeSet → NoticeSet) : (raiseNotice f s).arbiter = s.arbiter := rfl

@[simp] theorem raiseNotice_supply (s : State) (f : NoticeSet → NoticeSet) : (raiseNotice f s).supply = s.supply := rfl

@[simp] theorem raiseNotice_isolations (s : State) (f : NoticeSet → NoticeSet) : (raiseNotice f s).isolations = s.isolations := rfl

@[simp] theorem raiseNotice_nvs (s : State) (f : NoticeSet → NoticeSet) : (raiseNotice f s).nvs = s.nvs := rfl

@[simp] theorem raiseNotice_address (s : State) (f : NoticeSet → NoticeSet) : (raiseNotice f s).address = s.address := rfl

@[simp] theorem raiseNotice_baud (s : State) (f : NoticeSet → NoticeSet) : (raiseNotice f s).baud = s.baud := rfl

@[simp] theorem raiseNotice_seat (s : State) (f : NoticeSet → NoticeSet) : (raiseNotice f s).seat = s.seat := rfl

@[simp] theorem raiseNotice_settings (s : State) (f : NoticeSet → NoticeSet) : (raiseNotice f s).settings = s.settings := rfl

@[simp] theorem raiseNotice_lines (s : State) (f : NoticeSet → NoticeSet) : (raiseNotice f s).lines = s.lines := rfl

@[simp] theorem raiseNotice_started (s : State) (f : NoticeSet → NoticeSet) : (raiseNotice f s).started = s.started := rfl

@[simp] theorem raiseNotice_freeCount (s : State) (f : NoticeSet → NoticeSet) : (raiseNotice f s).freeCount = s.freeCount := rfl

@[simp] theorem raiseNotice_pending (s : State) (f : NoticeSet → NoticeSet) : (raiseNotice f s).pending = s.pending := rfl

/-! ### What an update leaves of the part it reaches -/

@[simp] theorem State.updArbiter_arbiter (s : State) (f : Arbiter → Arbiter) : (s.updArbiter f).arbiter = f s.arbiter :=
  rfl

@[simp] theorem State.updSets_sets (s : State) (f : List SetRec → List SetRec) :
    (s.updSets f).store.sets = f s.store.sets := rfl

@[simp] theorem State.updSets_queues (s : State) (f : List SetRec → List SetRec) :
    (s.updSets f).store.queues = s.store.queues := rfl

@[simp] theorem State.updQueue_sets (s : State) (g : Gate) (f : List Order → List Order) :
    (s.updQueue g f).store.sets = s.store.sets := rfl

@[simp] theorem State.withPending_pending (s : State) (l : List Instr) : (s.withPending l).pending = l := rfl

@[simp] theorem State.updEntries_isolations (s : State) (f : List IsoEntry → List IsoEntry) :
    (s.updEntries f).isolations = { s.isolations with entries := f s.isolations.entries } := rfl

theorem State.updGate_gate (s : State) (g h : Gate) (f : GateSeq → GateSeq) :
    (s.updGate g f).gate h = if h = g then f (s.gate g) else s.gate h := by
  simp only [State.gate, State.updGate, PerGate.get_set]

@[simp] theorem State.updGate_gate_self (s : State) (g : Gate) (f : GateSeq → GateSeq) :
    (s.updGate g f).gate g = f (s.gate g) := by simp only [State.updGate_gate, if_true]

theorem State.updQueue_queue (s : State) (g h : Gate) (f : List Order → List Order) :
    (s.updQueue g f).queue h = if h = g then f (s.queue g) else s.queue h := by
  simp only [State.queue, State.updQueue, PerGate.get_set]

@[simp] theorem State.updQueue_queue_self (s : State) (g : Gate) (f : List Order → List Order) :
    (s.updQueue g f).queue g = f (s.queue g) := by simp only [State.updQueue_queue, if_true]

theorem State.updLink_link (s : State) (p q : Port) (f : Link → Link) :
    (s.updLink p f).link q = if q = p then f (s.link p) else s.link q := by
  simp only [State.link, State.updLink, Ports.get_set]

@[simp] theorem State.updLink_link_self (s : State) (p : Port) (f : Link → Link) :
    (s.updLink p f).link p = f (s.link p) := by simp only [State.updLink_link, if_true]

theorem raiseNotice_link (f : NoticeSet → NoticeSet) (s : State) (p : Port) :
    (raiseNotice f s).link p = { s.link p with notices := f (s.link p).notices } := by cases p <;> rfl

theorem State.updHoistMeas_hoistMeas (s : State) (g h : Gate) (d e : Side) (f : HoistMeas → HoistMeas) :
    (s.updHoistMeas g d f).hoistMeas h e = if h = g ∧ e = d then f (s.hoistMeas g d) else s.hoistMeas h e := by
  simp only [State.hoistMeas, State.updHoistMeas, PerGate.get_set]
  by_cases hg : h = g
  · subst hg
    simp only [if_true, Sides.get_set, true_and]
  · simp only [hg, if_false, false_and]

/-! ### Views after updGate -/

@[simp] theorem State.updGate_queue_eq (s : State) (g : Gate) (f : GateSeq → GateSeq) (h : Gate) : (s.updGate g f).queue h = s.queue h := rfl

@[simp] theorem State.updGate_link_eq (s : State) (g : Gate) (f : GateSeq → GateSeq) (q : Port) : (s.updGate g f).link q = s.link q := rfl

@[simp] theorem State.updGate_hoistMeas (s : State) (g : Gate) (f : GateSeq → GateSeq) (h : Gate) (e : Side) : (s.updGate g f).hoistMeas h e = s.hoistMeas h e := rfl

@[simp] theorem State.updGate_geo (s : State) (g : Gate) (f : GateSeq → GateSeq) (h : Gate) : (s.updGate g f).geo h = s.geo h := rfl

@[simp] theorem State.updGate_tune (s : State) (g : Gate) (f : GateSeq → GateSeq) (h : Gate) : (s.updGate g f).tune h = s.tune h := rfl

@[simp] theorem State.updGate_isolated (s : State) (g : Gate) (f : GateSeq → GateSeq) (h : Gate) : (s.updGate g f).isolated h = s.isolated h := rfl

@[simp] theorem State.updGate_inhibited (s : State) (g : Gate) (f : GateSeq → GateSeq) (h : Gate) : (s.updGate g f).inhibited h = s.inhibited h := rfl

/-! ### Views after updQueue -/

@[simp] theorem State.updQueue_gate_eq (s : State) (g : Gate) (f : List Order → List Order) (h : Gate) : (s.updQueue g f).gate h = s.gate h := rfl

@[simp] theorem State.updQueue_link_eq (s : State) (g : Gate) (f : List Order → List Order) (q : Port) : (s.updQueue g f).link q = s.link q := rfl

@[simp] theorem State.updQueue_hoistMeas (s : State) (g : Gate) (f : List Order → List Order) (h : Gate) (e : Side) : (s.updQueue g f).hoistMeas h e = s.hoistMeas h e := rfl

@[simp] theorem State.updQueue_geo (s : State) (g : Gate) (f : List Order → List Order) (h : Gate) : (s.updQueue g f).geo h = s.geo h := rfl

@[simp] theorem State.updQueue_tune (s : State) (g : Gate) (f : List Order → List Order) (h : Gate) : (s.updQueue g f).tune h = s.tune h := rfl

@[simp] theorem State.updQueue_isolated (s : State) (g : Gate) (f : List Order → List Order) (h : Gate) : (s.updQueue g f).isolated h = s.isolated h := rfl

@[simp] theorem State.updQueue_inhibited (s : State) (g : Gate) (f : List Order → List Order) (h : Gate) : (s.updQueue g f).inhibited h = s.inhibited h := rfl

/-! ### Views after updOrder -/

@[simp] theorem State.updOrder_gate_eq (s : State) (g : Gate) (n : Nat) (f : Order → Order) (h : Gate) : (s.updOrder g n f).gate h = s.gate h := rfl

@[simp] theorem State.updOrder_link_eq (s : State) (g : Gate) (n : Nat) (f : Order → Order) (q : Port) : (s.updOrder g n f).link q = s.link q := rfl

@[simp] theorem State.updOrder_hoistMeas (s : State) (g : Gate) (n : Nat) (f : Order → Order) (h : Gate) (e : Side) : (s.updOrder g n f).hoistMeas h e = s.hoistMeas h e := rfl

@[simp] theorem State.updOrder_geo (s : State) (g : Gate) (n : Nat) (f : Order → Order) (h : Gate) : (s.updOrder g n f).geo h = s.geo h := rfl

@[simp] theorem State.updOrder_tune (s : State) (g : Gate) (n : Nat) (f : Order → Order) (h : Gate) : (s.updOrder g n f).tune h = s.tune h := rfl

@[simp] theorem State.updOrder_isolated (s : State) (g : Gate) (n : Nat) (f : Order → Order) (h : Gate) : (s.updOrder g n f).isolated h = s.isolated h := rfl

@[simp] theorem State.updOrder_inhibited (s : State) (g : Gate) (n : Nat) (f : Order → Order) (h : Gate) : (s.updOrder g n f).inhibited h = s.inhibited h := rfl

/-! ### Views after updSets -/

@[simp] theorem State.updSets_gate_eq (s : State) (f : List SetRec → List SetRec) (h : Gate) : (s.updSets f).gate h = s.gate h := rfl

@[simp] theorem State.updSets_queue_eq (s : State) (f : List SetRec → List SetRec) (h : Gate) : (s.updSets f).queue h = s.queue h := rfl

@[simp] theorem State.updSets_link_eq (s : State) (f : List SetRec → List SetRec) (q : Port) : (s.updSets f).link q = s.link q := rfl

@[simp] theorem State.updSets_hoistMeas (s : State) (f : List SetRec → List SetRec) (h : Gate) (e : Side) : (s.updSets f).hoistMeas h e = s.hoistMeas h e := rfl

@[simp] theorem State.updSets_geo (s : State) (f : List SetRec → List SetRec) (h : Gate) : (s.updSets f).geo h = s.geo h := rfl

@[simp] theorem State.updSets_tune (s : State) (f : List SetRec → List SetRec) (h : Gate) : (s.updSets f).tune h = s.tune h := rfl

@[simp] theorem State.updSets_isolated (s : State) (f : List SetRec → List SetRec) (h : Gate) : (s.updSets f).isolated h = s.isolated h := rfl

@[simp] theorem State.updSets_inhibited (s : State) (f : List SetRec → List SetRec) (h : Gate) : (s.updSets f).inhibited h = s.inhibited h := rfl

/-! ### Views after updHoistMeas -/

@[simp] theorem State.updHoistMeas_gate_eq (s : State) (g : Gate) (d : Side) (f : HoistMeas → HoistMeas) (h : Gate) : (s.updHoistMeas g d f).gate h = s.gate h := rfl

@[simp] theorem State.updHoistMeas_queue_eq (s : State) (g : Gate) (d : Side) (f : HoistMeas → HoistMeas) (h : Gate) : (s.updHoistMeas g d f).queue h = s.queue h := rfl

@[simp] theorem State.updHoistMeas_link_eq (s : State) (g : Gate) (d : Side) (f : HoistMeas → HoistMeas) (q : Port) : (s.updHoistMeas g d f).link q = s.link q := rfl

@[simp] theorem State.updHoistMeas_geo (s : State) (g : Gate) (d : Side) (f : HoistMeas → HoistMeas) (h : Gate) : (s.updHoistMeas g d f).geo h = s.geo h := rfl

@[simp] theorem State.updHoistMeas_tune (s : State) (g : Gate) (d : Side) (f : HoistMeas → HoistMeas) (h : Gate) : (s.updHoistMeas g d f).tune h = s.tune h := rfl

@[simp] theorem State.updHoistMeas_isolated (s : State) (g : Gate) (d : Side) (f : HoistMeas → HoistMeas) (h : Gate) : (s.updHoistMeas g d f).isolated h = s.isolated h := rfl

@[simp] theorem State.updHoistMeas_inhibited (s : State) (g : Gate) (d : Side) (f : HoistMeas → HoistMeas) (h : Gate) : (s.updHoistMeas g d f).inhibited h = s.inhibited h := rfl

/-! ### Views after updLink -/

@[simp] theorem State.updLink_gate_eq (s : State) (p : Port) (f : Link → Link) (h : Gate) : (s.updLink p f).gate h = s.gate h := rfl

@[simp] theorem State.updLink_queue_eq (s : State) (p : Port) (f : Link → Link) (h : Gate) : (s.updLink p f).queue h = s.queue h := rfl

@[simp] theorem State.updLink_hoistMeas (s : State) (p : Port) (f : Link → Link) (h : Gate) (e : Side) : (s.updLink p f).hoistMeas h e = s.hoistMeas h e := rfl

@[simp] theorem State.updLink_geo (s : State) (p : Port) (f : Link → Link) (h : Gate) : (s.updLink p f).geo h = s.geo h := rfl

@[simp] theorem State.updLink_tune (s : State) (p : Port) (f : Link → Link) (h : Gate) : (s.updLink p f).tune h = s.tune h := rfl

@[simp] theorem State.updLink_isolated (s : State) (p : Port) (f : Link → Link) (h : Gate) : (s.updLink p f).isolated h = s.isolated h := rfl

@[simp] theorem State.updLink_inhibited (s : State) (p : Port) (f : Link → Link) (h : Gate) : (s.updLink p f).inhibited h = s.inhibited h := rfl

/-! ### Views after updArbiter -/

@[simp] theorem State.updArbiter_gate_eq (s : State) (f : Arbiter → Arbiter) (h : Gate) : (s.updArbiter f).gate h = s.gate h := rfl

@[simp] theorem State.updArbiter_queue_eq (s : State) (f : Arbiter → Arbiter) (h : Gate) : (s.updArbiter f).queue h = s.queue h := rfl

@[simp] theorem State.updArbiter_link_eq (s : State) (f : Arbiter → Arbiter) (q : Port) : (s.updArbiter f).link q = s.link q := rfl

@[simp] theorem State.updArbiter_hoistMeas (s : State) (f : Arbiter → Arbiter) (h : Gate) (e : Side) : (s.updArbiter f).hoistMeas h e = s.hoistMeas h e := rfl

@[simp] theorem State.updArbiter_geo (s : State) (f : Arbiter → Arbiter) (h : Gate) : (s.updArbiter f).geo h = s.geo h := rfl

@[simp] theorem State.updArbiter_tune (s : State) (f : Arbiter → Arbiter) (h : Gate) : (s.updArbiter f).tune h = s.tune h := rfl

@[simp] theorem State.updArbiter_isolated (s : State) (f : Arbiter → Arbiter) (h : Gate) : (s.updArbiter f).isolated h = s.isolated h := rfl

@[simp] theorem State.updArbiter_inhibited (s : State) (f : Arbiter → Arbiter) (h : Gate) : (s.updArbiter f).inhibited h = s.inhibited h := rfl

/-! ### Views after updEntries -/

@[simp] theorem State.updEntries_gate_eq (s : State) (f : List IsoEntry → List IsoEntry) (h : Gate) : (s.updEntries f).gate h = s.gate h := rfl

@[simp] theorem State.updEntries_queue_eq (s : State) (f : List IsoEntry → List IsoEntry) (h : Gate) : (s.updEntries f).queue h = s.queue h := rfl

@[simp] theorem State.updEntries_link_eq (s : State) (f : List IsoEntry → List IsoEntry) (q : Port) : (s.updEntries f).link q = s.link q := rfl

@[simp] theorem State.updEntries_hoistMeas (s : State) (f : List IsoEntry → List IsoEntry) (h : Gate) (e : Side) : (s.updEntries f).hoistMeas h e = s.hoistMeas h e := rfl

@[simp] theorem State.updEntries_geo (s : State) (f : List IsoEntry → List IsoEntry) (h : Gate) : (s.updEntries f).geo h = s.geo h := rfl

@[simp] theorem State.updEntries_tune (s : State) (f : List IsoEntry → List IsoEntry) (h : Gate) : (s.updEntries f).tune h = s.tune h := rfl

/-! ### Views after withPending -/

@[simp] theorem State.withPending_gate_eq (s : State) (l : List Instr) (h : Gate) : (s.withPending l).gate h = s.gate h := rfl

@[simp] theorem State.withPending_queue_eq (s : State) (l : List Instr) (h : Gate) : (s.withPending l).queue h = s.queue h := rfl

@[simp] theorem State.withPending_link_eq (s : State) (l : List Instr) (q : Port) : (s.withPending l).link q = s.link q := rfl

@[simp] theorem State.withPending_hoistMeas (s : State) (l : List Instr) (h : Gate) (e : Side) : (s.withPending l).hoistMeas h e = s.hoistMeas h e := rfl

@[simp] theorem State.withPending_geo (s : State) (l : List Instr) (h : Gate) : (s.withPending l).geo h = s.geo h := rfl

@[simp] theorem State.withPending_tune (s : State) (l : List Instr) (h : Gate) : (s.withPending l).tune h = s.tune h := rfl

@[simp] theorem State.withPending_isolated (s : State) (l : List Instr) (h : Gate) : (s.withPending l).isolated h = s.isolated h := rfl

@[simp] theorem State.withPending_inhibited (s : State) (l : List Instr) (h : Gate) : (s.withPending l).inhibited h = s.inhibited h := rfl

/-! ### Views after raiseNotice -/

@[simp] theorem raiseNotice_gate_eq (s : State) (f : NoticeSet → NoticeSet) (h : Gate) : (raiseNotice f s).gate h = s.gate h := rfl

@[simp] theorem raiseNotice_queue_eq (s : State) (f : NoticeSet → NoticeSet) (h : Gate) : (raiseNotice f s).queue h = s.queue h := rfl

@[simp] theorem raiseNotice_hoistMeas (s : State) (f : NoticeSet → NoticeSet) (h : Gate) (e : Side) : (raiseNotice f s).hoistMeas h e = s.hoistMeas h e := rfl

@[simp] theorem raiseNotice_geo (s : State) (f : NoticeSet → NoticeSet) (h : Gate) : (raiseNotice f s).geo h = s.geo h := rfl

@[simp] theorem raiseNotice_tune (s : State) (f : NoticeSet → NoticeSet) (h : Gate) : (raiseNotice f s).tune h = s.tune h := rfl

@[simp] theorem raiseNotice_isolated (s : State) (f : NoticeSet → NoticeSet) (h : Gate) : (raiseNotice f s).isolated h = s.isolated h := rfl

@[simp] theorem raiseNotice_inhibited (s : State) (f : NoticeSet → NoticeSet) (h : Gate) : (raiseNotice f s).inhibited h = s.inhibited h := rfl

/-! ### The load calibration in effect -/

theorem Geometry.loadPair_given {geo : Geometry} {d : Side} {c : CodePair} (h : geo.loadCal.get d = some c) :
    geo.loadPair d = c := by rw [loadPair, h]; rfl

theorem Geometry.loadPair_unset {geo : Geometry} {d : Side} (h : geo.loadCal.get d = none) :
    geo.loadPair d = ⟨819, 4095⟩ := by rw [loadPair, h]; rfl

end Sys2Proof.Machine
end

