-- ==== Sys2Proof/Laws/Cascade.lean ====
section
/-! SUPPORT. What the shared operations of an event can do (Ops, Flags, Sequencer), said once: `Cascade s t` holds of every
one of them. They move gates, hold orders, retire orders and raise notices. They place no order, change no setting, no line,
no isolation, no clock and no link beyond its notices, and a hoist of theirs is as it was, off, or (with no inhibit standing)
lifted with its outputs off. -/

namespace Sys2Proof.Machine

/-! ### The relation -/

/-- What a cascade never changes: the state with the parts it can change put at fixed values. -/
def State.fixed (s : State) : State :=
  { s with
    measure := { s.measure with hoists :=
      ⟨⟨clearCounters s.measure.hoists.g1.left, clearCounters s.measure.hoists.g1.right⟩,
       ⟨clearCounters s.measure.hoists.g2.left, clearCounters s.measure.hoists.g2.right⟩,
       ⟨clearCounters s.measure.hoists.g3.left, clearCounters s.measure.hoists.g3.right⟩,
       ⟨clearCounters s.measure.hoists.g4.left, clearCounters s.measure.hoists.g4.right⟩,
       ⟨clearCounters s.measure.hoists.g5.left, clearCounters s.measure.hoists.g5.right⟩,
       ⟨clearCounters s.measure.hoists.g6.left, clearCounters s.measure.hoists.g6.right⟩⟩ }
    store := { s.store with queues := .const [], sets := [] }
    gates := .const .reset
    arbiter := { Arbiter.reset with limit := s.arbiter.limit }
    links := ⟨{ s.links.station with notices := .none }, { s.links.panel with notices := .none }⟩ }

/-- What a cascade can do to the state and the two hoists of a gate. -/
def GateFollows (inhibited : Bool) (p q : GateSeq) : Prop :=
  (q.hoists = p.hoists ∧ q.st = p.st) ∨ q.hoists = ⟨.off, .off⟩ ∨
    (inhibited = false ∧ q.hoists = ⟨.lifted, .lifted⟩ ∧ q.st.lifts = true)

/-- What an operation of a cascade can do. -/
structure Cascade (s t : State) : Prop where
  frame : t.fixed = s.fixed
  gates : ∀ g, GateFollows (s.inhibited g) (s.gate g) (t.gate g)
  orders : ∀ g, List.Sublist ((t.queue g).map Order.fixed) ((s.queue g).map Order.fixed)
  holds : ∀ g, (∀ o ∈ s.queue g, o.holdsAgree) → ∀ o ∈ t.queue g, o.holdsAgree

/-- The state alone of an operation that also answers gates to be tested. -/
abbrev CascadeR (s : State) (r : State × List Gate) : Prop := Cascade s r.1

/-! ### What follows from the frame -/

namespace Cascade

variable {s t u : State}

theorem settings_eq (h : Cascade s t) : t.settings = s.settings := congrArg (fun x => x.settings) h.frame
theorem lines_eq (h : Cascade s t) : t.lines = s.lines := congrArg (fun x => x.lines) h.frame
theorem isolations_eq (h : Cascade s t) : t.isolations = s.isolations := congrArg (fun x => x.isolations) h.frame
theorem clock_eq (h : Cascade s t) : t.clock = s.clock := congrArg (fun x => x.clock) h.frame
theorem holdAll_eq (h : Cascade s t) : t.holdAll = s.holdAll := congrArg (fun x => x.holdAll) h.frame
theorem supply_eq (h : Cascade s t) : t.supply = s.supply := congrArg (fun x => x.supply) h.frame
theorem nvs_eq (h : Cascade s t) : t.nvs = s.nvs := congrArg (fun x => x.nvs) h.frame
theorem address_eq (h : Cascade s t) : t.address = s.address := congrArg (fun x => x.address) h.frame
theorem baud_eq (h : Cascade s t) : t.baud = s.baud := congrArg (fun x => x.baud) h.frame
theorem seat_eq (h : Cascade s t) : t.seat = s.seat := congrArg (fun x => x.seat) h.frame
theorem started_eq (h : Cascade s t) : t.started = s.started := congrArg (fun x => x.started) h.frame
theorem freeCount_eq (h : Cascade s t) : t.freeCount = s.freeCount := congrArg (fun x => x.freeCount) h.frame
theorem pending_eq (h : Cascade s t) : t.pending = s.pending := congrArg (fun x => x.pending) h.frame
theorem limit_eq (h : Cascade s t) : t.arbiter.limit = s.arbiter.limit := congrArg (fun x => x.arbiter.limit) h.frame
theorem nextNumber_eq (h : Cascade s t) : t.store.nextNumber = s.store.nextNumber :=
  congrArg (fun x => x.store.nextNumber) h.frame
theorem acceptCount_eq (h : Cascade s t) : t.store.acceptCount = s.store.acceptCount :=
  congrArg (fun x => x.store.acceptCount) h.frame
theorem nextSet_eq (h : Cascade s t) : t.store.nextSet = s.store.nextSet := congrArg (fun x => x.store.nextSet) h.frame
theorem request_eq (h : Cascade s t) (p : Port) : (t.link p).request = (s.link p).request := by
  cases p
  · exact congrArg (fun x => x.links.station.request) h.frame
  · exact congrArg (fun x => x.links.panel.request) h.frame

theorem inhibited_eq (h : Cascade s t) (g : Gate) : t.inhibited g = s.inhibited g := by
  simp only [State.inhibited, State.isolated, h.lines_eq, h.isolations_eq]

theorem length_le (h : Cascade s t) (g : Gate) : (t.queue g).length ≤ (s.queue g).length := by
  have := (h.orders g).length_le
  simpa only [List.length_map] using this

end Cascade

/-! ### Composition -/

theorem GateFollows.refl (i : Bool) (p : GateSeq) : GateFollows i p p := .inl ⟨rfl, rfl⟩

theorem GateFollows.trans {i : Bool} {p q r : GateSeq} (h : GateFollows i p q) (k : GateFollows i q r) :
    GateFollows i p r := by
  rcases k with ⟨k1, k2⟩ | k | k
  · rcases h with ⟨h1, h2⟩ | h | ⟨h1, h2, h3⟩
    · exact .inl ⟨k1.trans h1, k2.trans h2⟩
    · exact .inr (.inl (k1.trans h))
    · exact .inr (.inr ⟨h1, k1.trans h2, k2 ▸ h3⟩)
  · exact .inr (.inl k)
  · exact .inr (.inr k)

theorem Cascade.refl (s : State) : Cascade s s :=
  ⟨rfl, fun _ => .refl _ _, fun _ => List.Sublist.refl _, fun _ h => h⟩

theorem Cascade.trans {s t u : State} (h : Cascade s t) (k : Cascade t u) : Cascade s u where
  frame := k.frame.trans h.frame
  gates := fun g => (h.gates g).trans (by rw [← h.inhibited_eq g]; exact k.gates g)
  orders := fun g => (k.orders g).trans (h.orders g)
  holds := fun g hs => k.holds g (h.holds g hs)

/-! ### The primitive updates -/

/-- An update of a gate that leaves its state and hoists as GateFollows allows. -/
theorem Cascade.updGate {s : State} {g : Gate} {f : GateSeq → GateSeq}
    (hf : GateFollows (s.inhibited g) (s.gate g) (f (s.gate g))) : Cascade s (s.updGate g f) where
  frame := rfl
  gates := fun h => by
    rw [State.updGate_gate]
    by_cases hh : h = g
    · subst hh
      simpa only [if_true] using hf
    · simp only [hh, if_false]
      exact .refl _ _
  orders := fun _ => List.Sublist.refl _
  holds := fun _ h => h

/-- An update of a gate's queue that takes orders out or changes only their state, armed mark and holds, in agreement. -/
theorem Cascade.updQueue {s : State} {g : Gate} {f : List Order → List Order}
    (hf : List.Sublist ((f (s.queue g)).map Order.fixed) ((s.queue g).map Order.fixed))
    (hh : (∀ o ∈ s.queue g, o.holdsAgree) → ∀ o ∈ f (s.queue g), o.holdsAgree) : Cascade s (s.updQueue g f) where
  frame := rfl
  gates := fun _ => .refl _ _
  orders := fun h => by
    rw [State.updQueue_queue]
    by_cases e : h = g
    · subst e
      simpa only [if_true] using hf
    · simp only [e, if_false]
      exact List.Sublist.refl _
  holds := fun h => by
    rw [State.updQueue_queue]
    by_cases e : h = g
    · subst e
      simpa only [if_true] using hh
    · simp only [e, if_false]
      exact fun x => x

theorem Cascade.filterQueue (s : State) (g : Gate) (p : Order → Bool) : Cascade s (s.updQueue g (List.filter p)) :=
  .updQueue (List.Sublist.map _ List.filter_sublist) fun h o ho => h o (List.mem_filter.1 ho).1

theorem Cascade.mapQueue (s : State) (g : Gate) (f : Order → Order) (hf : ∀ o, (f o).fixed = o.fixed)
    (hh : ∀ o, o.holdsAgree → (f o).holdsAgree) : Cascade s (s.updQueue g (List.map f)) :=
  .updQueue
    (by
      have e : (List.map f (s.queue g)).map Order.fixed = (s.queue g).map Order.fixed := by
        simp only [List.map_map, show (Order.fixed ∘ f) = Order.fixed from funext hf]
      exact e ▸ List.Sublist.refl _)
    (fun h o ho => by
      obtain ⟨x, hx, rfl⟩ := List.mem_map.1 ho
      exact hh x (h x hx))

theorem Cascade.updOrder (s : State) (g : Gate) (n : Nat) (f : Order → Order) (hf : ∀ o, (f o).fixed = o.fixed)
    (hh : ∀ o, o.holdsAgree → (f o).holdsAgree) : Cascade s (s.updOrder g n f) :=
  Cascade.mapQueue s g _ (fun o => by split <;> simp only [hf]) (fun o h => by split; exact hh o h; exact h)

theorem Cascade.updSets (s : State) (f : List SetRec → List SetRec) : Cascade s (s.updSets f) :=
  ⟨rfl, fun _ => .refl _ _, fun _ => List.Sublist.refl _, fun _ h => h⟩

theorem Cascade.updArbiter {s : State} {f : Arbiter → Arbiter} (hf : (f s.arbiter).limit = s.arbiter.limit) :
    Cascade s (s.updArbiter f) :=
  ⟨by simp only [State.fixed, State.updArbiter, hf], fun _ => .refl _ _, fun _ => List.Sublist.refl _, fun _ h => h⟩

theorem Cascade.raiseNotice (s : State) (f : NoticeSet → NoticeSet) : Cascade s (raiseNotice f s) :=
  ⟨rfl, fun _ => .refl _ _, fun _ => List.Sublist.refl _, fun _ h => h⟩

theorem Cascade.clearCounters (s : State) (g : Gate) (d : Side) :
    Cascade s (s.updHoistMeas g d Machine.clearCounters) :=
  ⟨by cases g <;> cases d <;> rfl, fun _ => .refl _ _, fun _ => List.Sublist.refl _, fun _ h => h⟩

/-- A fold of cascades over gates is a cascade. -/
theorem Cascade.foldl {f : State → Gate → State} (hf : ∀ s g, Cascade s (f s g)) (l : List Gate) (s : State) :
    Cascade s (l.foldl f s) := by
  induction l generalizing s with
  | nil => exact .refl s
  | cons g l ih => exact (hf s g).trans (ih (f s g))

/-! ### Ops -/

theorem State.updGate_updGate (s : State) (g : Gate) (f k : GateSeq → GateSeq) :
    (s.updGate g f).updGate g k = s.updGate g fun q => k (f q) := by cases g <;> rfl

/-- A gate updated in any way and then braked. -/
theorem brakesOff_updGate_cascade (g : Gate) (f : GateSeq → GateSeq) (s : State) :
    Cascade s (brakesOff g (s.updGate g f)) := by
  unfold brakesOff
  rw [State.updGate_updGate]
  exact ((Cascade.updGate (.inr (.inl rfl))).trans (.clearCounters _ g .left)).trans (.clearCounters _ g .right)

theorem brakesOff_cascade (g : Gate) (s : State) : Cascade s (brakesOff g s) :=
  ((Cascade.updGate (.inr (.inl rfl))).trans (.clearCounters _ g .left)).trans (.clearCounters _ g .right)

/-- A gate updated to a state with its brakes lifted, and then lifted. -/
theorem brakesOn_updGate_cascade (g : Gate) (f : GateSeq → GateSeq) (s : State) (hf : (f (s.gate g)).st.lifts = true) :
    Cascade s (brakesOn g (s.updGate g f)) := by
  unfold brakesOn
  split
  · exact brakesOff_updGate_cascade g f s
  · rename_i h
    rw [State.updGate_updGate]
    exact .updGate (.inr (.inr ⟨by simpa using h, rfl, hf⟩))

theorem callGrantTest_cascade (s : State) : Cascade s (callGrantTest s) := .updArbiter rfl

theorem joinWait_cascade (g : Gate) (s : State) : Cascade s (joinWait g s) := .updArbiter rfl

theorem leaveWait_cascade (g : Gate) (s : State) : Cascade s (leaveWait g s) := .updArbiter rfl

theorem releaseSlot_cascade (g : Gate) (s : State) : Cascade s (releaseSlot g s) := by
  unfold releaseSlot
  split
  · exact .updArbiter rfl
  · exact .refl s

theorem enterAtRest_cascade (st : GateState) (phase : Timer) (g : Gate) (s : State) :
    Cascade s (enterAtRest st phase g s) := brakesOff_updGate_cascade g _ s

theorem enterStopping_cascade (g : Gate) (s : State) : Cascade s (enterStopping g s) := enterAtRest_cascade _ _ g s

theorem enterReversing_cascade (g : Gate) (s : State) : Cascade s (enterReversing g s) := enterAtRest_cascade _ _ g s

theorem enterHeld_cascade (g : Gate) (s : State) : Cascade s (enterHeld g s) := enterAtRest_cascade _ _ g s

theorem enterWaitGrant_cascade (g : Gate) (s : State) : Cascade s (enterWaitGrant g s) :=
  (enterAtRest_cascade _ _ g s).trans (joinWait_cascade g _)

theorem enterReleasing_cascade (g : Gate) (s : State) : Cascade s (enterReleasing g s) :=
  brakesOn_updGate_cascade g _ s rfl

theorem enterTravel_cascade (g : Gate) (s : State) : Cascade s (enterTravel g s) :=
  brakesOn_updGate_cascade g _ s rfl

theorem enterTrim_cascade (g : Gate) (s : State) : Cascade s (enterTrim g s) :=
  brakesOn_updGate_cascade g _ s rfl

/-! ### Orders -/

theorem HoldSet.put_true_isEmpty (h : HoldSet) (r : HoldReason) : (h.put r true).isEmpty = false := by
  cases h
  cases r <;> simp [HoldSet.put, HoldSet.isEmpty]

theorem HoldSet.none_isEmpty : HoldSet.none.isEmpty = true := rfl

@[simp] theorem Order.withReason_fixed (r : HoldReason) (o : Order) : (o.withReason r).fixed = o.fixed := rfl

@[simp] theorem Order.withoutReason_fixed (r : HoldReason) (o : Order) : (o.withoutReason r).fixed = o.fixed := rfl

theorem Order.withReason_holdsAgree (r : HoldReason) (o : Order) : (o.withReason r).holdsAgree := by
  simp only [Order.holdsAgree, Order.withReason, HoldSet.put_true_isEmpty]

theorem HoldSet.put_false_isEmpty (h : HoldSet) (r : HoldReason) (he : h.isEmpty = true) :
    (h.put r false).isEmpty = true := by
  rcases h with ⟨a, b, c, d, e⟩
  revert he
  cases r <;> cases a <;> cases b <;> cases c <;> cases d <;> cases e <;> decide

theorem Order.withoutReason_holdsAgree (r : HoldReason) (o : Order) (h : o.holdsAgree) :
    (o.withoutReason r).holdsAgree := by
  unfold Order.holdsAgree Order.withoutReason at *
  by_cases e : (o.holds.put r false).isEmpty = true
  · simp only [e, if_true]
    simp
  · have e' : (o.holds.put r false).isEmpty = false := by simpa using e
    have : o.holds.isEmpty = false := by
      by_cases k : o.holds.isEmpty = true
      · exact absurd (HoldSet.put_false_isEmpty _ r k) e
      · simpa using k
    simp only [e', Bool.false_eq_true, if_false]
    simp only [h, this]

theorem gateHeld_cascade (g : Gate) (s : State) : Cascade s (gateHeld g s) := by
  unfold gateHeld
  split
  · exact (leaveWait_cascade g s).trans (enterHeld_cascade g _)
  · exact enterStopping_cascade g s
  · exact enterStopping_cascade g s
  · exact enterStopping_cascade g s
  · exact .refl s

theorem gateFreed_cascade (g : Gate) (s : State) : Cascade s (gateFreed g s) := by
  unfold gateFreed
  split
  · exact enterWaitGrant_cascade g s
  · exact .refl s

theorem addHold_cascade (g : Gate) (r : HoldReason) (s : State) : Cascade s (addHold g r s) := by
  unfold addHold
  split
  · exact .refl s
  · split
    · exact .refl s
    · exact (Cascade.updOrder s g _ _ (Order.withReason_fixed r) fun o _ => o.withReason_holdsAgree r).trans
        (gateHeld_cascade g _)

theorem removeHold_cascade (g : Gate) (r : HoldReason) (s : State) : Cascade s (removeHold g r s) := by
  have h := fun n => Cascade.updOrder s g n _ (Order.withoutReason_fixed r) fun o h => o.withoutReason_holdsAgree r h
  unfold removeHold
  split
  · exact .refl s
  · split
    · dsimp only
      split
      · exact (h _).trans (gateFreed_cascade g _)
      · exact h _
    · exact .refl s

/-! ### Faults -/

theorem noticeFault_cascade (g : Gate) (s : State) : Cascade s (noticeFault g s) := .raiseNotice s _

theorem noticeOutcome_cascade (g : Gate) (s : State) : Cascade s (noticeOutcome g s) := .raiseNotice s _

theorem enterFault_cascade (g : Gate) (k : FaultKind) (d : Designation) (s : State) : Cascade s (enterFault g k d s) :=
  ((enterAtRest_cascade _ _ g s).trans (.updGate (.inl ⟨rfl, rfl⟩))).trans (noticeFault_cascade g _)

theorem furtherFault_cascade (g : Gate) (s : State) : Cascade s (furtherFault g s) := by
  unfold furtherFault
  split
  · exact .refl s
  · split
    · exact (Cascade.updGate (.inl ⟨rfl, rfl⟩)).trans (noticeFault_cascade g _)
    · exact .refl s

theorem emptyFault_cascade (g : Gate) (s : State) : Cascade s (emptyFault g s) := by
  unfold emptyFault
  split
  · exact .refl s
  · exact (Cascade.updGate (.inl ⟨rfl, rfl⟩)).trans (noticeFault_cascade g _)

theorem enterIdle_cascade (g : Gate) (s : State) : CascadeR s (enterIdle g s) := by
  have h : Cascade s ((enterAtRest .idle none g s).updGate g fun q =>
      { q with link := none, vPrev := 0, settle := 0, window := none }) :=
    (enterAtRest_cascade _ _ g s).trans (.updGate (.inl ⟨rfl, rfl⟩))
  unfold enterIdle CascadeR
  dsimp only
  split
  · exact h.trans (enterFault_cascade g _ _ _)
  · exact h

theorem loseOrder_cascade (g : Gate) (s : State) : CascadeR s (loseOrder g s) := by
  have h : Cascade s (s.updGate g fun q => { q with link := none }) := .updGate (.inl ⟨rfl, rfl⟩)
  unfold loseOrder CascadeR
  dsimp only
  split
  · exact (h.trans (leaveWait_cascade g _)).trans (enterIdle_cascade g _)
  · exact h.trans (enterStopping_cascade g _)
  · exact h.trans (enterStopping_cascade g _)
  · exact h.trans (enterStopping_cascade g _)
  · exact h.trans (enterIdle_cascade g _)
  · exact h

/-! ### Sets and retirement -/

theorem testAllReady_cascade (k : Nat) (s : State) : CascadeR s (testAllReady k s) := by
  unfold testAllReady CascadeR
  split
  · exact .refl s
  · split
    · exact .updSets s _
    · exact .refl s

theorem leaveSet_cascade (n : Nat) (oc : Outcome) (k : Nat) (s : State) : CascadeR s (leaveSet n oc k s) :=
  ((Cascade.updSets s _).trans (.updSets _ _)).trans (testAllReady_cascade k _)

theorem groupHolds_cascade (k : Nat) (s : State) : Cascade s (groupHolds k s) :=
  .foldl (fun s g => by
    split
    · split
      · exact addHold_cascade g _ s
      · exact .refl s
    · exact .refl s) _ s

theorem recordOutcome_cascade (g : Gate) (o : Order) (oc : Outcome) (s : State) :
    Cascade s (recordOutcome g o oc s) :=
  (Cascade.updGate (.inl ⟨rfl, rfl⟩)).trans (noticeOutcome_cascade g _)

theorem leaveOwnSet_cascade (n : Nat) (oc : Outcome) (set : Option Nat) (s : State) :
    CascadeR s (leaveOwnSet n oc set s) := by
  cases set with
  | none => exact .refl s
  | some k => exact leaveSet_cascade n oc k s

theorem groupOwnSet_cascade (oc : Outcome) (set : Option Nat) (s : State) : Cascade s (groupOwnSet oc set s) := by
  cases set with
  | none => exact .refl s
  | some k =>
    unfold groupOwnSet
    dsimp only
    split
    · exact groupHolds_cascade k s
    · exact .refl s

theorem retire_cascade (g : Gate) (n : Nat) (oc : Outcome) (s : State) : CascadeR s (retire g n oc s) := by
  unfold retire CascadeR
  split
  · exact .refl s
  · rename_i o _
    have h := ((Cascade.filterQueue s g fun x => x.number != n).trans (leaveOwnSet_cascade n oc o.setNo _)).trans
      (recordOutcome_cascade g o oc _)
    dsimp only
    refine Cascade.trans ?_ (groupOwnSet_cascade _ _ _)
    split
    · exact h.trans (loseOrder_cascade g _)
    · exact h

theorem faultStop_cascade (g : Gate) (k : FaultKind) (d : Designation) (s : State) : CascadeR s (faultStop g k d s) := by
  have h := enterFault_cascade g k d s
  unfold faultStop CascadeR
  dsimp only
  split
  · exact (h.trans (retire_cascade g _ _ _)).trans ((releaseSlot_cascade g _).trans (leaveWait_cascade g _))
  · exact h.trans ((releaseSlot_cascade g _).trans (leaveWait_cascade g _))

theorem raiseFault_cascade (g : Gate) (k : FaultKind) (d : Designation) (s : State) :
    CascadeR s (raiseFault g k d s) := by
  unfold raiseFault CascadeR
  split
  · exact .refl s
  · exact furtherFault_cascade g s
  · exact faultStop_cascade g k d s

/-! ### Taking force -/

theorem linkOrder_cascade (g : Gate) (n : Nat) (s : State) : Cascade s (linkOrder g n s) := by
  unfold linkOrder
  dsimp only
  refine Cascade.trans (Cascade.updOrder s g n (fun x => { x with
    state := if (standingHolds s g).isEmpty then .inForce else .held, holds := standingHolds s g })
    (fun _ => rfl) fun o _ => ?_) (.updGate (.inl ⟨rfl, rfl⟩))
  unfold Order.holdsAgree
  dsimp only
  cases e : (standingHolds s g).isEmpty <;> simp

theorem takeForce_cascade (g : Gate) (o : Order) (s : State) : CascadeR s (takeForce g o s) := by
  have h := linkOrder_cascade g o.number s
  unfold takeForce CascadeR
  dsimp only
  split
  · exact h.trans (faultStop_cascade g _ _ _)
  · split
    · split
      · exact h.trans (retire_cascade g _ _ _)
      · exact h.trans (enterWaitGrant_cascade g _)
    · exact h.trans (enterHeld_cascade g _)

theorem backToReady_cascade (g : Gate) (o : Order) (s : State) : Cascade s (backToReady g o s) := by
  have h : Cascade s (s.updOrder g o.number fun x => { x with state := .ready, holds := .none }) :=
    .updOrder s g _ _ (fun _ => rfl) fun o _ => by
      unfold Order.holdsAgree
      simp [HoldSet.none_isEmpty]
  unfold backToReady
  dsimp only
  split
  · exact h
  · exact h.trans (testAllReady_cascade _ _)

theorem preempt_cascade (g : Gate) (o cur : Order) (s : State) : CascadeR s (preempt g o cur s) := by
  have h : Cascade s ((linkOrder g o.number (backToReady g cur s)).updGate g fun q => { q with settle := 0 }) :=
    ((backToReady_cascade g cur s).trans (linkOrder_cascade g _ _)).trans (.updGate (.inl ⟨rfl, rfl⟩))
  unfold preempt CascadeR
  dsimp only
  split
  · exact h.trans (faultStop_cascade g _ _ _)
  · split
    · split
      · split
        · exact h.trans (retire_cascade g _ _ _)
        · exact h.trans (callGrantTest_cascade _)
      · split
        · exact h.trans (retire_cascade g _ _ _)
        · exact h.trans (enterWaitGrant_cascade g _)
      · exact h
    · split
      · exact (h.trans (leaveWait_cascade g _)).trans (enterHeld_cascade g _)
      · exact h.trans (enterStopping_cascade g _)
      · exact h.trans (enterStopping_cascade g _)
      · exact h.trans (enterStopping_cascade g _)
      · exact h

theorem storeTest_cascade (g : Gate) (s : State) : CascadeR s (storeTest g s) := by
  unfold storeTest CascadeR
  split
  · exact .refl s
  · split
    · exact takeForce_cascade g _ s
    · exact .refl s
    · exact .refl s
    · exact .refl s
    · exact .refl s
    · split
      · exact .refl s
      · split
        · exact preempt_cascade g _ _ s
        · exact .refl s

theorem runTests_cascade (fuel : Nat) (gs : List Gate) (s : State) : Cascade s (runTests fuel gs s) := by
  induction fuel generalizing gs s with
  | zero => exact .refl s
  | succ n ih =>
    cases gs with
    | nil => exact .refl s
    | cons g rest => exact (storeTest_cascade g s).trans (ih _ _)

theorem storeTests_cascade (gs : List Gate) (s : State) : Cascade s (storeTests gs s) := runTests_cascade _ _ _

/-- An operation that is a cascade, followed by the tests it calls for, is a cascade. -/
theorem settle_cascade {s : State} {r : State × List Gate} (h : CascadeR s r) : Cascade s (settle r) :=
  h.trans (storeTests_cascade _ _)

/-! ### The close of the event -/

theorem grant_cascade (g : Gate) (s : State) : Cascade s (grant g s) := by
  have h : Cascade s ((leaveWait g s).updArbiter fun a =>
      { a with holders := a.holders ++ [{ gate := g, named := false }] }) :=
    (leaveWait_cascade g s).trans (.updArbiter rfl)
  unfold grant
  dsimp only
  split
  · exact h.trans (enterReleasing_cascade g _)
  · exact h.trans (enterTrim_cascade g _)

theorem grantAll_cascade (fuel : Nat) (s : State) : Cascade s (grantAll fuel s) := by
  induction fuel generalizing s with
  | zero => exact .refl s
  | succ n ih =>
    unfold grantAll
    split
    · split
      · exact .refl s
      · exact (grant_cascade _ s).trans (ih _)
    · exact .refl s

theorem closeEvent_cascade (s : State) : Cascade s (closeEvent s) := by
  have h : Cascade s (s.updArbiter fun a =>
      { a with waiters := a.waiters ++ Gate.all.filter (fun g => a.fresh.contains g), fresh := [], due := false }) :=
    .updArbiter rfl
  unfold closeEvent
  dsimp only
  split
  · exact h.trans (grantAll_cascade _ _)
  · exact h

theorem finish_cascade (gs : List Gate) (s : State) : Cascade s (finish gs s) :=
  (storeTests_cascade gs s).trans (closeEvent_cascade _)

/-- A cascade followed by its tests and the close of the event is a cascade. -/
theorem finishR_cascade {s : State} {r : State × List Gate} (h : CascadeR s r) : Cascade s (finish r.2 r.1) :=
  h.trans (finish_cascade _ _)

end Sys2Proof.Machine
end

