-- ==== Sys2Proof/Laws/Moves.lean ====
section
/-! SUPPORT. Moves: chains of cascades and of updates that stand aside from the gates, the store, the settings, the
isolations and the lines. Every command but the few that place, amend, isolate, set, drive or reset is one. A property that
both kinds of step keep is kept by every move (`Moves.keeps`). -/

namespace Sys2Proof.Machine

/-- An update of the Measurement Unit, the clock, the supply, the links, the arbiter or the model's counter alone. -/
structure Aside (s t : State) : Prop where
  gates : t.gates = s.gates
  store : t.store = s.store
  holdAll : t.holdAll = s.holdAll
  isolations : t.isolations = s.isolations
  nvs : t.nvs = s.nvs
  address : t.address = s.address
  baud : t.baud = s.baud
  seat : t.seat = s.seat
  settings : t.settings = s.settings
  lines : t.lines = s.lines
  started : t.started = s.started
  pending : t.pending = s.pending

/-- A chain of cascades and of updates that stand aside. -/
inductive Moves : State → State → Prop where
  | cascade {s t : State} : Cascade s t → Moves s t
  | aside {s t : State} : Aside s t → Moves s t
  | trans {s t u : State} : Moves s t → Moves t u → Moves s u

theorem Moves.refl (s : State) : Moves s s := .cascade (.refl s)

/-- A property that cascades and asides keep is kept by every move. -/
theorem Moves.keeps {P : State → Prop} (hc : ∀ s t, Cascade s t → P s → P t) (ha : ∀ s t, Aside s t → P s → P t)
    {s t : State} (h : Moves s t) : P s → P t := by
  induction h with
  | cascade h => exact hc _ _ h
  | aside h => exact ha _ _ h
  | trans _ _ ih1 ih2 => exact fun p => ih2 (ih1 p)

/-- A value that cascades and asides leave equal is left equal by every move. -/
theorem Moves.eq_of {α : Type} {f : State → α} (hc : ∀ s t, Cascade s t → f t = f s)
    (ha : ∀ s t, Aside s t → f t = f s) {s t : State} (h : Moves s t) : f t = f s :=
  h.keeps (P := fun x => f x = f s) (fun _ _ k e => (hc _ _ k).trans e) (fun _ _ k e => (ha _ _ k).trans e) rfl

theorem Moves.settings_eq {s t : State} (h : Moves s t) : t.settings = s.settings :=
  h.eq_of (f := fun x => x.settings) (fun _ _ k => k.settings_eq) fun _ _ k => k.settings

theorem Moves.isolations_eq {s t : State} (h : Moves s t) : t.isolations = s.isolations :=
  h.eq_of (f := fun x => x.isolations) (fun _ _ k => k.isolations_eq) fun _ _ k => k.isolations

theorem Moves.nvs_eq {s t : State} (h : Moves s t) : t.nvs = s.nvs :=
  h.eq_of (f := fun x => x.nvs) (fun _ _ k => k.nvs_eq) fun _ _ k => k.nvs

theorem Moves.lines_eq {s t : State} (h : Moves s t) : t.lines = s.lines :=
  h.eq_of (f := fun x => x.lines) (fun _ _ k => k.lines_eq) fun _ _ k => k.lines

theorem Moves.seat_eq {s t : State} (h : Moves s t) : t.seat = s.seat :=
  h.eq_of (f := fun x => x.seat) (fun _ _ k => k.seat_eq) fun _ _ k => k.seat

theorem Moves.holdAll_eq {s t : State} (h : Moves s t) : t.holdAll = s.holdAll :=
  h.eq_of (f := fun x => x.holdAll) (fun _ _ k => k.holdAll_eq) fun _ _ k => k.holdAll

theorem Moves.started_eq {s t : State} (h : Moves s t) : t.started = s.started :=
  h.eq_of (f := fun x => x.started) (fun _ _ k => k.started_eq) fun _ _ k => k.started

theorem Moves.address_eq {s t : State} (h : Moves s t) : t.address = s.address :=
  h.eq_of (f := fun x => x.address) (fun _ _ k => k.address_eq) fun _ _ k => k.address

theorem Moves.baud_eq {s t : State} (h : Moves s t) : t.baud = s.baud :=
  h.eq_of (f := fun x => x.baud) (fun _ _ k => k.baud_eq) fun _ _ k => k.baud

theorem Moves.pending_eq {s t : State} (h : Moves s t) : t.pending = s.pending :=
  h.eq_of (f := fun x => x.pending) (fun _ _ k => k.pending_eq) fun _ _ k => k.pending

theorem Moves.inhibited_eq {s t : State} (h : Moves s t) (g : Gate) : t.inhibited g = s.inhibited g := by
  simp only [State.inhibited, State.isolated, h.lines_eq, h.isolations_eq]

theorem Moves.nextNumber_eq {s t : State} (h : Moves s t) : t.store.nextNumber = s.store.nextNumber :=
  h.eq_of (f := fun x => x.store.nextNumber) (fun _ _ k => k.nextNumber_eq) fun _ _ k =>
    congrArg (fun x => x.nextNumber) k.store

theorem Moves.acceptCount_eq {s t : State} (h : Moves s t) : t.store.acceptCount = s.store.acceptCount :=
  h.eq_of (f := fun x => x.store.acceptCount) (fun _ _ k => k.acceptCount_eq) fun _ _ k =>
    congrArg (fun x => x.acceptCount) k.store

theorem Moves.nextSet_eq {s t : State} (h : Moves s t) : t.store.nextSet = s.store.nextSet :=
  h.eq_of (f := fun x => x.store.nextSet) (fun _ _ k => k.nextSet_eq) fun _ _ k => congrArg (fun x => x.nextSet) k.store

/-- The orders of a queue after a move are orders it held before, in their order, changed at most in state, armed mark and
hold set. -/
theorem Moves.orders {s t : State} (h : Moves s t) (g : Gate) :
    List.Sublist ((t.queue g).map Order.fixed) ((s.queue g).map Order.fixed) :=
  h.keeps (P := fun x => List.Sublist ((x.queue g).map Order.fixed) ((s.queue g).map Order.fixed))
    (fun _ _ k e => (k.orders g).trans e)
    (fun a b k e => by
      have : b.queue g = a.queue g := by simp only [State.queue, k.store]
      rw [this]
      exact e)
    (List.Sublist.refl _)

/-- A property of an order that its fixed part decides holds of every order of a queue after a move, where it held of every
order before. -/
theorem Moves.forall_orders {s t : State} (h : Moves s t) (g : Gate) {p : Order → Prop} (hp : ∀ o, p o.fixed ↔ p o)
    (hs : ∀ o ∈ s.queue g, p o) : ∀ o ∈ t.queue g, p o := by
  intro o ho
  have h1 : o.fixed ∈ (s.queue g).map Order.fixed := (h.orders g).subset (List.mem_map_of_mem ho)
  obtain ⟨x, hx, hxo⟩ := List.mem_map.1 h1
  exact (hp o).1 (hxo ▸ (hp x).2 (hs x hx))

/-! ### Updates that stand aside -/

theorem Aside.refl (s : State) : Aside s s := ⟨rfl, rfl, rfl, rfl, rfl, rfl, rfl, rfl, rfl, rfl, rfl, rfl⟩

theorem Aside.trans {s t u : State} (h : Aside s t) (k : Aside t u) : Aside s u :=
  ⟨k.gates.trans h.gates, k.store.trans h.store, k.holdAll.trans h.holdAll, k.isolations.trans h.isolations,
    k.nvs.trans h.nvs, k.address.trans h.address, k.baud.trans h.baud, k.seat.trans h.seat,
    k.settings.trans h.settings, k.lines.trans h.lines, k.started.trans h.started, k.pending.trans h.pending⟩

theorem updLink_aside (s : State) (p : Port) (f : Link → Link) : Aside s (s.updLink p f) :=
  ⟨rfl, rfl, rfl, rfl, rfl, rfl, rfl, rfl, rfl, rfl, rfl, rfl⟩

theorem updArbiter_aside (s : State) (f : Arbiter → Arbiter) : Aside s (s.updArbiter f) :=
  ⟨rfl, rfl, rfl, rfl, rfl, rfl, rfl, rfl, rfl, rfl, rfl, rfl⟩

theorem setLimit_aside (l : Nat) (s : State) : Aside s (setLimit l s) := updArbiter_aside s _

theorem updHoistMeas_aside (s : State) (g : Gate) (d : Side) (f : HoistMeas → HoistMeas) :
    Aside s (s.updHoistMeas g d f) := ⟨rfl, rfl, rfl, rfl, rfl, rfl, rfl, rfl, rfl, rfl, rfl, rfl⟩

theorem raiseNotice_aside (f : NoticeSet → NoticeSet) (s : State) : Aside s (raiseNotice f s) :=
  ⟨rfl, rfl, rfl, rfl, rfl, rfl, rfl, rfl, rfl, rfl, rfl, rfl⟩

theorem answerOn_aside (p : Port) (kind seq : Byte) (st : Status) (wr : WriteResult) (payload : List Byte) (s : State) :
    Aside s (answerOn p kind seq st wr payload s) := updLink_aside s p _

theorem waitOn_aside (p : Port) (kind seq : Byte) (what : Waiting) (s : State) : Aside s (waitOn p kind seq what s) :=
  updLink_aside s p _

theorem noticeSupply_aside (s : State) : Aside s (noticeSupply s) := by
  unfold noticeSupply
  split
  · exact raiseNotice_aside _ s
  · exact .refl s

theorem enterSupply_aside (st : SupplyState) (drive : Bool) (phase : Timer) (s : State) :
    Aside s (enterSupply st drive phase s) := by
  have h : Aside s { s with supply := { s.supply with st := st, driveSupply := drive, phase := phase } } :=
    ⟨rfl, rfl, rfl, rfl, rfl, rfl, rfl, rfl, rfl, rfl, rfl, rfl⟩
  exact h.trans (noticeSupply_aside _)

theorem startScan_aside (s : State) : Aside s (startScan s) :=
  ⟨rfl, rfl, rfl, rfl, rfl, rfl, rfl, rfl, rfl, rfl, rfl, rfl⟩

theorem parkScan_aside (s : State) : Aside s (parkScan s) :=
  ⟨rfl, rfl, rfl, rfl, rfl, rfl, rfl, rfl, rfl, rfl, rfl, rfl⟩

theorem wakeScan_aside (s : State) : Aside s (wakeScan s) := by
  unfold wakeScan
  split
  · exact startScan_aside s
  · exact ⟨rfl, rfl, rfl, rfl, rfl, rfl, rfl, rfl, rfl, rfl, rfl, rfl⟩

theorem wake_aside (s : State) : Aside s (wake s) := by
  unfold wake
  split
  · split
    · exact enterSupply_aside _ _ _ s
    · exact (enterSupply_aside _ _ _ s).trans (wakeScan_aside _)
    · exact .refl s
    · exact .refl s
  · exact .refl s

theorem advanceScan_aside (s : State) : Aside s (advanceScan s) := by
  unfold advanceScan
  split
  · exact .refl s
  · split
    · exact ⟨rfl, rfl, rfl, rfl, rfl, rfl, rfl, rfl, rfl, rfl, rfl, rfl⟩
    · dsimp only
      split
      · exact ⟨rfl, rfl, rfl, rfl, rfl, rfl, rfl, rfl, rfl, rfl, rfl, rfl⟩
      · exact ⟨rfl, rfl, rfl, rfl, rfl, rfl, rfl, rfl, rfl, rfl, rfl, rfl⟩

theorem measureGauge_aside (w : Weir) (n : GaugeName) (c : Code) (s : State) : Aside s (measureGauge w n c s) :=
  ⟨rfl, rfl, rfl, rfl, rfl, rfl, rfl, rfl, rfl, rfl, rfl, rfl⟩

theorem useFree_aside (g : Gate) (s : State) : Aside s (useFree g s) := by
  unfold useFree
  split
  · exact .refl s
  · exact ⟨rfl, rfl, rfl, rfl, rfl, rfl, rfl, rfl, rfl, rfl, rfl, rfl⟩

theorem loadClock_aside (v : Nat) (s : State) : Aside s (loadClock v s) :=
  ⟨rfl, rfl, rfl, rfl, rfl, rfl, rfl, rfl, rfl, rfl, rfl, rfl⟩

theorem countSecond_aside (s : State) : Aside s (countSecond s) :=
  ⟨rfl, rfl, rfl, rfl, rfl, rfl, rfl, rfl, rfl, rfl, rfl, rfl⟩

/-! ### The drive limit -/

theorem markNamed_moves (p : Holder → Bool) (s : State) : Moves s (markNamed p s) := .cascade (.updArbiter rfl)

theorem nameGate_moves (g : Gate) (s : State) : Moves s (nameGate g s).1 := by
  unfold nameGate
  dsimp only
  refine (markNamed_moves (fun h => h.gate == g) s).trans ?_
  split
  · exact .cascade (faultStop_cascade g _ _ _)
  · exact .cascade (enterStopping_cascade g _)

theorem reclaimAll_moves (fuel : Nat) (s : State) : Moves s (reclaimAll fuel s).1 := by
  induction fuel generalizing s with
  | zero => exact .refl s
  | succ n ih =>
    unfold reclaimAll
    split
    · split
      · exact .refl s
      · exact (nameGate_moves _ s).trans (ih _)
    · exact .refl s

theorem applyLimit_moves (s : State) : Moves s (applyLimit s).1 := by
  have h : Moves s (setLimit (limitOf s.supply.st s.supply.source s.settings.site) s) := .aside (setLimit_aside _ s)
  unfold applyLimit
  dsimp only
  split
  · exact h.trans (.cascade (callGrantTest_cascade _))
  · split
    · exact (h.trans (markNamed_moves _ _)).trans (reclaimAll_moves _ _)
    · exact h

theorem finish_moves {s : State} {r : State × List Gate} (h : Moves s r.1) : Moves s (finish r.2 r.1) :=
  h.trans (.cascade (finish_cascade _ _))

/-! ### The Start Watch -/

theorem holdsAgree_of_notHeld {o : Order} (h1 : o.state ≠ .held) (h2 : o.holds.isEmpty = true) : o.holdsAgree := by
  unfold Order.holdsAgree
  simp [h1, h2]

theorem holdsAgree_queued {o : Order} (h : o.holdsAgree) (hq : o.state = .queued) : o.holds.isEmpty = true := by
  cases e : o.holds.isEmpty
  · have h' : o.state = .held := h.2 e
    rw [hq] at h'
    cases h'
  · rfl

theorem holdsAgree_madeReady {o : Order} (h : o.holdsAgree) (hq : o.state = .queued) :
    ({ o with state := .ready, armed := false } : Order).holdsAgree := by
  have e : o.holds.isEmpty = true := holdsAgree_queued h hq
  exact holdsAgree_of_notHeld (by simp) e

theorem makeReady_cascade (p : Order → Bool) (hp : ∀ o, p o = true → o.state = .queued) (s : State) :
    Cascade s (makeReady p s) :=
  .foldl (fun s g => .mapQueue s g _ (fun o => by split <;> rfl) fun o h => by
    split
    · rename_i e
      exact holdsAgree_madeReady h (hp o e)
    · exact h) _ s

theorem timeReached_queued (c : Nat) (o : Order) (h : timeReached c o = true) : o.state = .queued := by
  simp only [timeReached, Bool.and_eq_true, beq_iff_eq] at h
  exact h.1

theorem watches_queued (w : Weir) (o : Order) (h : watches w o = true) : o.state = .queued := by
  simp only [watches, Bool.and_eq_true, beq_iff_eq] at h
  exact h.1

theorem levelMet_queued (w : Weir) (l : Int) (o : Order) (h : levelMet w l o = true) : o.state = .queued := by
  simp only [levelMet, Bool.and_eq_true] at h
  exact watches_queued w o h.1.1

theorem armOrders_cascade (p : Order → Bool) (s : State) : Cascade s (armOrders p s) :=
  .foldl (fun s g => .mapQueue s g _ (fun o => by split <;> rfl) fun o h => by
    split
    · exact h
    · exact h) _ s

theorem testSets_cascade (l : List Nat) (s : State) : CascadeR s (testSets l s) := by
  induction l generalizing s with
  | nil => exact .refl s
  | cons k rest ih => exact (testAllReady_cascade k s).trans (ih _)

theorem followReady_moves (made : List (Gate × Order)) (also : List Gate) (s : State) :
    Moves s (followReady made also s) := by
  unfold followReady
  dsimp only
  split
  · exact (Moves.cascade (testSets_cascade _ s)).trans (.cascade (storeTests_cascade _ _))
  · exact (Moves.aside (wake_aside s)).trans
      ((Moves.cascade (testSets_cascade _ _)).trans (.cascade (storeTests_cascade _ _)))

theorem expireOrder_cascade (g : Gate) (n c : Nat) (x : Expiry) : Cascade x.state (expireOrder g n c x).state := by
  unfold expireOrder
  split
  · exact .refl _
  · split
    · exact retire_cascade g n _ x.state
    · exact .refl _

theorem expireFold_cascade (g : Gate) (c : Nat) (l : List Order) (x : Expiry) :
    Cascade x.state (l.foldl (fun acc o => expireOrder g o.number c acc) x).state := by
  induction l generalizing x with
  | nil => exact .refl _
  | cons o l ih => exact (expireOrder_cascade g o.number c x).trans (ih _)

theorem expireGates_cascade (c : Nat) (l : List Gate) (x : Expiry) :
    Cascade x.state (l.foldl (fun x g => expireGate g c x) x).state := by
  induction l generalizing x with
  | nil => exact .refl _
  | cons g l ih => exact (expireFold_cascade g c _ x).trans (ih _)

theorem expireAll_cascade (c : Nat) (s : State) : Cascade s (expireAll c s).state :=
  expireGates_cascade c Gate.all { state := s, tests := [], lapsed := 0, overdue := 0 }

theorem clockEvaluation_moves (c : Nat) (s : State) : Moves s (clockEvaluation c s).state := by
  have h := (expireAll_cascade c s).trans (makeReady_cascade (timeReached c) (timeReached_queued c) _)
  unfold clockEvaluation
  dsimp only
  exact (Moves.cascade h).trans (followReady_moves _ _ _)

theorem levelStarts_moves (w : Weir) (s : State) : Moves s (levelStarts w s) := by
  unfold levelStarts
  dsimp only
  split
  · have h := fun l => (Moves.cascade (makeReady_cascade _ (levelMet_queued w l) s)).trans
      (.cascade (armOrders_cascade (levelArms w l s.settings.site.hysteresis) _))
    split
    · exact h _
    · exact (h _).trans (followReady_moves _ _ _)
  · exact .refl s

theorem headRelease_cascade (g : Gate) (s : State) : Cascade s (headRelease g s) := by
  unfold headRelease
  split
  · exact .refl s
  · split
    · exact .refl s
    · split
      · exact removeHold_cascade g _ s
      · exact .refl s

theorem headReleases_cascade (s : State) : Cascade s (headReleases s) := by
  unfold headReleases
  split
  · exact .foldl (fun s g => headRelease_cascade g s) _ s
  · exact .refl s

/-! ### Conversions -/

theorem settle_moves {s : State} {r : State × List Gate} (h : Moves s r.1) : Moves s (settle r) :=
  h.trans (.cascade (storeTests_cascade _ _))

theorem convertPosition_moves (g : Gate) (d : Side) (c : Code) (s : State) : Moves s (convertPosition g d c s).1 := by
  have h : Moves s (s.updHoistMeas g d (takePosition s g d c)) := .aside (updHoistMeas_aside s g d _)
  unfold convertPosition
  dsimp only
  split
  · exact h.trans (.cascade (raiseFault_cascade g _ _ _))
  · split
    · exact h.trans (.cascade (raiseFault_cascade g _ _ _))
    · exact h

theorem setOverload_aside (g : Gate) (d : Side) (n : Nat) (s : State) : Aside s (setOverload g d n s) := updHoistMeas_aside s g d _

theorem watchOverload_moves (g : Gate) (d : Side) (s : State) : Moves s (watchOverload g d s).1 := by
  unfold watchOverload
  dsimp only
  split
  · exact (Moves.aside (setOverload_aside g d _ s)).trans (.cascade (raiseFault_cascade g _ _ _))
  · exact .aside (setOverload_aside g d _ s)

theorem setSlack_aside (g : Gate) (d : Side) (n : Nat) (s : State) : Aside s (setSlack g d n s) := updHoistMeas_aside s g d _

theorem watchSlack_moves (g : Gate) (d : Side) (s : State) : Moves s (watchSlack g d s).1 := by
  unfold watchSlack
  dsimp only
  split
  · exact (Moves.aside (setSlack_aside g d _ s)).trans (.cascade (raiseFault_cascade g _ _ _))
  · exact .aside (setSlack_aside g d _ s)

theorem convert_moves (ch : Channel) (c : Code) (s : State) : Moves s (convert ch c s) := by
  cases ch with
  | position g d => exact settle_moves (convertPosition_moves g d c s)
  | load g d =>
    exact settle_moves
      ((settle_moves ((Moves.aside (updHoistMeas_aside s g d _)).trans (watchOverload_moves g d _))).trans
        (watchSlack_moves g d _))
  | gauge w n =>
    exact ((Moves.aside (measureGauge_aside w n c s)).trans (levelStarts_moves w _)).trans
      (.cascade (headReleases_cascade _))

/-! ### Retiring several orders -/

theorem retireEach_cascade (g : Gate) (oc : Outcome) (l : List Nat) (s : State) :
    Cascade s (retireEach g oc l s).1 := by
  induction l generalizing s with
  | nil => exact .refl s
  | cons n rest ih =>
    unfold retireEach
    split
    · exact ih s
    · exact (settle_cascade (retire_cascade g n oc s)).trans (ih _)

theorem retireGate_cascade (g : Gate) (oc : Outcome) (s : State) : Cascade s (retireGate g oc s).1 :=
  retireEach_cascade g oc _ s

theorem retireGates_cascade (oc : Outcome) (l : List Gate) (s : State) : Cascade s (retireGates oc l s).1 := by
  induction l generalizing s with
  | nil => exact .refl s
  | cons g rest ih => exact (retireGate_cascade g oc s).trans (ih _)

theorem groupReleases_cascade (k : Nat) (s : State) : Cascade s (groupReleases k s) :=
  .foldl (fun s g => by
    split
    · split
      · exact removeHold_cascade g _ s
      · exact .refl s
    · exact .refl s) _ s

theorem clearGate_cascade (g : Gate) (s : State) : Cascade s (clearGate g s) := by
  unfold clearGate
  dsimp only
  split
  · exact ((emptyFault_cascade g s).trans (enterWaitGrant_cascade g _)).trans (closeEvent_cascade _)
  · exact (emptyFault_cascade g s).trans (finishR_cascade (enterIdle_cascade g _))

theorem resetGate_cascade (g : Gate) (s : State) : Cascade s (resetGate g s).1 := by
  have h : Cascade s (restGate g s) :=
    (((enterAtRest_cascade _ _ g s).trans (releaseSlot_cascade g _)).trans (leaveWait_cascade g _)).trans
      (emptyFault_cascade g _)
  have k := h.trans (retireGate_cascade g .cleared _)
  unfold resetGate
  dsimp only
  split
  · exact k.trans (finishR_cascade (enterIdle_cascade g _))
  · exact (k.trans (.updGate (.inl ⟨rfl, rfl⟩))).trans (closeEvent_cascade _)

/-! ### Lines and stops -/

theorem seatHold_cascade (g : Gate) (s : State) : Cascade s (seatHold g s) := by
  unfold seatHold
  split
  · exact .refl s
  · split
    · exact removeHold_cascade g _ s
    · exact addHold_cascade g _ s

theorem seatChanged_cascade (s : State) : Cascade s (seatChanged s) :=
  (Cascade.foldl (fun s g => seatHold_cascade g s) _ s).trans (finish_cascade _ _)

theorem estopTaken_cascade (s : State) : Cascade s (estopTaken s) :=
  (Cascade.foldl (fun s g => brakesOff_cascade g s) _ s).trans
    (.foldl (fun s g => finishR_cascade (raiseFault_cascade g .estop .both s)) _ _)

theorem endStop_cascade (g : Gate) (s : State) : CascadeR s (endStop g s) := by
  have h := releaseSlot_cascade g s
  unfold endStop CascadeR
  dsimp only
  split
  · exact h.trans (enterIdle_cascade g _)
  · split
    · exact h.trans (enterHeld_cascade g _)
    · exact h.trans (enterWaitGrant_cascade g _)

theorem tellIsolated_cascade (g : Gate) (s : State) : Cascade s (tellIsolated g s) := by
  have h := brakesOff_cascade g s
  unfold tellIsolated
  dsimp only
  split
  · exact h.trans (enterStopping_cascade g _)
  · exact (h.trans (leaveWait_cascade g _)).trans (settle_cascade (enterIdle_cascade g _))
  · exact h.trans (addHold_cascade g _ _)

theorem tellGates_cascade (before s : State) : Cascade s (tellGates before s) :=
  .foldl (fun s g => by
    split
    · exact tellIsolated_cascade g s
    · split
      · exact removeHold_cascade g _ s
      · exact .refl s) _ s

theorem isolationChanged_cascade (before s : State) : Cascade s (isolationChanged before s) :=
  ((tellGates_cascade before s).trans (.raiseNotice _ _)).trans (closeEvent_cascade _)

theorem disableGate_cascade (g : Gate) (s : State) : Cascade s (disableGate g s) :=
  (enterAtRest_cascade _ _ g s).trans (emptyFault_cascade g _)

theorem geometryPut_cascade (g : Gate) (s : State) : Cascade s (geometryPut g s) := by
  unfold geometryPut
  split
  · exact finishR_cascade (enterIdle_cascade g s)
  · exact disableGate_cascade g s
  · exact disableGate_cascade g s
  · exact .refl s

theorem enterGates_cascade (s : State) : Cascade s (enterGates s) :=
  .foldl (fun s g => by
    split
    · exact settle_cascade (enterIdle_cascade g s)
    · exact .refl s) _ s

theorem convertFrom_moves (codes : Channels Code) (count n : Nat) (s : State) :
    Moves s (convertFrom codes count n s) := by
  induction count generalizing n s with
  | zero => exact .refl s
  | succ k ih =>
    unfold convertFrom
    split
    · exact (convert_moves _ _ s).trans (ih _ _)
    · exact .refl s

/-! ### The end of a write -/

theorem markKept_eq (kept : Bool) (im : IsoImage) (e : IsoEntry) :
    markKept kept im e = { e with kept := kept && (e.kept || im.holds e.placement) } := by
  unfold markKept
  cases kept <;> cases h : im.holds e.placement <;> simp

@[simp] theorem markKept_toIsoRecord (kept : Bool) (im : IsoImage) (e : IsoEntry) :
    (markKept kept im e).toIsoRecord = e.toIsoRecord := by rw [markKept_eq]

theorem loadEntries_map_kept (n : Nat) (l : List IsoRecord) :
    (loadEntries n l).map (fun e => { e with placement := 0 }) =
      l.map fun r => { toIsoRecord := { r with placement := 0 }, kept := true } := by
  induction l generalizing n with
  | nil => rfl
  | cons r l ih => simp [loadEntries, ih]

/-- All that answering the requests of a port can do: at most the port's held request changes. -/
theorem answerWaiting_spec (w : Flight) (kept : Bool) (p : Port) (s : State) :
    ∃ r, answerWaiting w kept p s = s.updLink p fun k => { k with request := r } := by
  have same : s = s.updLink p fun k => { k with request := (s.link p).request } := by
    cases p <;> rfl
  unfold answerWaiting
  split
  · split
    · split
      · exact ⟨_, rfl⟩
      · exact ⟨_, same⟩
    · exact ⟨_, same⟩
  · exact ⟨_, same⟩

theorem answerAllWaiting_aside (w : Flight) (kept : Bool) (s : State) : Aside s (answerAllWaiting w kept s) := by
  obtain ⟨_, h⟩ := answerWaiting_spec w kept .station s
  obtain ⟨_, k⟩ := answerWaiting_spec w kept .panel (answerWaiting w kept .station s)
  rw [answerAllWaiting, k, h]
  exact (updLink_aside _ _ _).trans (updLink_aside _ _ _)

end Sys2Proof.Machine
end

