-- ==== Sys2Proof/WellFormed.lean ====
section
/-! DEFINITION. The commands that the world can send. A request's payload fits its frame (R177, R189), and a device reset
begins under at least one cause (R174). The machine gives every command a meaning, well formed or not. -/

namespace Sys2Proof

/-- A payload that fits a frame: kind, sequence and payload make at most 250 characters (R177). -/
def payloadFits (payload : List Byte) : Bool := Nat.ble (payload.length + 2) Config.maxLength

/-- At least one cause stands (R174). -/
def ResetCauses.some (c : ResetCauses) : Bool := c.power || c.brownout || c.pin

/-- Whether the world can send a command. -/
def Instr.wellFormed : Instr → Bool
  | .placeOrder _ _ payload => payloadFits payload
  | .placeSet _ _ payload => payloadFits payload
  | .amendOrder _ _ payload => payloadFits payload
  | .amendBatch _ _ payload => payloadFits payload
  | .withdrawOrder _ _ payload => payloadFits payload
  | .withdrawGate _ _ payload => payloadFits payload
  | .stopAll _ _ payload => payloadFits payload
  | .releaseSet _ _ payload => payloadFits payload
  | .readOrder _ _ payload => payloadFits payload
  | .listOrders _ _ payload => payloadFits payload
  | .readSet _ _ payload => payloadFits payload
  | .readGate _ _ payload => payloadFits payload
  | .readOutcome _ _ payload => payloadFits payload
  | .clearFault _ _ payload => payloadFits payload
  | .resetGate _ _ payload => payloadFits payload
  | .holdAll _ _ payload => payloadFits payload
  | .releaseAll _ _ payload => payloadFits payload
  | .placeIsolation _ _ payload => payloadFits payload
  | .removeIsolation _ _ payload => payloadFits payload
  | .listIsolations _ _ payload => payloadFits payload
  | .confirmIsolations _ _ payload => payloadFits payload
  | .readLevels _ _ payload => payloadFits payload
  | .readHoists _ _ payload => payloadFits payload
  | .setClock _ _ payload => payloadFits payload
  | .readClock _ _ payload => payloadFits payload
  | .park _ _ payload => payloadFits payload
  | .readSupply _ _ payload => payloadFits payload
  | .apportion _ _ payload => payloadFits payload
  | .clearStore _ _ payload => payloadFits payload
  | .putSetting _ _ payload => payloadFits payload
  | .getSetting _ _ payload => payloadFits payload
  | .keepSettings _ _ payload => payloadFits payload
  | .lockGeometry _ _ payload => payloadFits payload
  | .unlockGeometry _ _ payload => payloadFits payload
  | .readNotices _ _ payload => payloadFits payload
  | .identify _ _ payload => payloadFits payload
  | .frameComplete _ _ => true
  | .framingError _ => true
  | .gapTimerExpiry _ => true
  | .responseStart _ => true
  | .responseSent _ => true
  | .localChange _ => true
  | .estopAssert => true
  | .estopRelease => true
  | .mainsOkChange _ => true
  | .deviceReset w => w.causes.some
  | .scanTimerExpiry => true
  | .conversionComplete _ => true
  | .tick => true
  | .isolationWriteComplete _ => true
  | .settingsWriteComplete _ => true
  | .travelStep _ => true
  | .liftTimerExpiry _ => true
  | .dwellTimerExpiry _ => true
  | .setTimerExpiry _ => true
  | .trimStep _ => true
  | .trimLimitExpiry _ => true
  | .dropOutExpiry => true
  | .settleTimerExpiry => true
  | .characterArrival _ _ => true

end Sys2Proof
end

