-- ==== Sys2Proof/Tests/Slice0.lean ====
section
/-! SUPPORT. The author's own tests: the ill-formed commands that the check refuses, the spec's worked examples on one
operation or one step each, and for each statement with hypotheses a witness that meets them. -/

namespace Sys2Proof.Tests

open Sys2Proof Sys2Proof.Machine

-- One theorem at a time: a theorem decided by the kernel waits for those before it, and each that waits holds a thread.
set_option Elab.async false

/-! ### Commands that no world sends -/

theorem test_longest_payload_is_well_formed :
    (Instr.readClock .station 0#8 (List.replicate 248 0#8)).wellFormed = true := by decide +kernel

theorem test_payload_too_long_is_ill_formed :
    (Instr.readClock .station 0#8 (List.replicate 249 0#8)).wellFormed = false := by decide +kernel

theorem test_order_payload_too_long_is_ill_formed :
    (Instr.placeOrder .panel 0#8 (List.replicate 249 0#8)).wellFormed = false := by decide +kernel

theorem test_reset_without_cause_is_ill_formed :
    (Instr.deviceReset
      { causes := ⟨false, false, false⟩, straps := ⟨7#5, 3#2⟩, codes := .const 2000#12, settingsArea := .asStored,
        isolationArea := .asStored }).wellFormed = false := by decide +kernel

/-! ### A small running device -/

/-- The geometry of a gate of 8000 mm with a full speed of 1600 mm/min. -/
def geometry : Geometry :=
  { defaultGeometry with fullTravel := some 8000, posCal := ⟨some ⟨819, 4095⟩, some ⟨819, 4095⟩⟩, fullSpeed := some 1600 }

/-- Settings with that geometry on every gate and a trim speed of 600 mm/min. -/
def settings : Settings :=
  { defaultSettings with gates := .const { geo := geometry, tune := { defaultTuning with trimSpeed := 600 } } }

/-- A hoist read at 5000 mm. -/
def hoistAt5000 : HoistMeas :=
  { HoistMeas.reset with posRaw := 2866, posStanding := .valid, position := some 5000, posValid := true }

/-- A device past start-up with address 7, its six gates IDLE at 5000 mm, the clock at 10000 and a drive limit of 3. -/
def up : State :=
  { State.reset with
    measure := { Measurement.reset with hoists := .const ⟨hoistAt5000, hoistAt5000⟩, headDisputed := false,
                                        scanTimer := some 10 }
    clock := { value := 10000, isSet := true, second := some 1000 }
    gates := .const { GateSeq.reset with st := .idle }
    arbiter := { Arbiter.reset with limit := 3 }
    supply := { State.reset.supply with st := .run, source := .mains, driveSupply := true }
    isolations := { entries := [], doubt := false, nextPlacement := 0 }
    links := ⟨.reset, .reset⟩
    address := 7
    baud := 3
    settings := settings
    lines := { localKey := false, estop := false, mainsOk := true }
    started := true }

/-- A ROUTINE order with target 6000 mm. -/
def order (n : Nat) (st : OrderState) (holds : HoldSet) : Order :=
  { number := n, cls := .routine, target := 6000, rate := none, start := .immediate, armed := false, guard := none,
    deadline := none, tag := 0, originator := .station, setNo := none, state := st, holds := holds, sequence := n }

/-- `up` with order 1 in force on G1, G1 in the state given with every timer running, and the arbiter to match. -/
def upWith (st : GateState) (os : OrderState) (holds : HoldSet) : State :=
  let s := { up with store := { Store.reset with queues := (PerGate.const []).set .g1 [order 1 os holds], nextNumber := 2,
                                                 acceptCount := 1 } }
  let s1 := s.updGate .g1 fun q =>
    { q with st := st, link := some 1, stepTimer := some 100, phaseTimer := some 250, trimTimer := some 30000 }
  s1.updArbiter fun a =>
    { a with holders := if st.holdsSlot then [{ gate := .g1, named := false }] else []
             waiters := if st == .waitGrant then [.g1] else [] }

/-- G1 travelling for order 1. -/
def moving : State := upWith .travel .inForce .none

/-- The payload of a PLACE ORDER for gate `g` with the target 6000 and nothing optional. -/
def placement (g cls opts kind : Nat) (param : List Byte) : List Byte :=
  [BitVec.ofNat 8 g, BitVec.ofNat 8 cls, BitVec.ofNat 8 opts, 0x17, 0x70, BitVec.ofNat 8 kind, 0] ++ param

/-- The state that a command leaves. -/
def after (c : Instr) (s : State) : State :=
  match exec c s with
  | .next t => t
  | .fault _ => s
  | .refused _ => s

/-! ### Worked examples of the spec -/

/-- 01, Scaling examples: codes 820 and 3890, F = 9000, raw 2100. -/
theorem test_position_scaling : roundDiv ((2100 - 820) * 9000) (3890 - 820) = 3752 := by decide

/-- 01, Scaling examples: the transducer mounted the other way round. -/
theorem test_position_scaling_mirrored : roundDiv ((2100 - 3890) * 9000) (820 - 3890) = 5248 := by decide

/-- 01, Scaling examples: a gauge from −2000 to 12000 over codes 800 to 4000. -/
theorem test_gauge_scaling : (-2000 : Int) + roundDiv ((2400 - 800) * 14000) (4000 - 800) = 5000 := by decide

/-- 01, one side through five scans: levels −101 and −100 agree at −100. -/
theorem test_mean_truncates_toward_zero : meanOf (-101) (-100) = -100 := by decide

/-- 02, numbering across the wrap: from 65534, live, the number is 65535, and the counter then stands at 1. -/
theorem test_numbering_passes_live_and_wraps :
    freeNumber nextOrderNumber (fun n => n == 65534 || n == 1 || n == 2) 48 65534 = 65535 ∧ nextOrderNumber 65535 = 1 ∧
      freeNumber nextOrderNumber (fun n => n == 65534 || n == 1 || n == 2) 48 1 = 3 := by decide

/-- 06, stage 7: 600 mm/min of 1600 is the duty 375 (07, a skew fault and its trim). -/
theorem test_trim_duty : driveOf 1600 120 (-600) = (.lower, 375) := by decide

/-- 07, a skew fault and its trim: 41 is above half the skew trip of 80, and 40 completes. -/
theorem test_trim_completes_at_half_trip : trimDone 80 41 = false ∧ trimDone 80 40 = true ∧ trimDone 80 (-40) = true := by
  decide

/-- 07, the same: a skew of 84 at a travel step faults the gate SKEW, naming BOTH. -/
theorem test_skew_of_84_faults :
    ((after (.travelStep .g1) ((moving.updHoistMeas .g1 .left fun m => { m with position := some 5142 }).updHoistMeas
      .g1 .right fun m => { m with position := some 5058 })).gate .g1).fault =
      some { kind := .skew, hoist := .both, second := some 10000, further := 0 } := by decide +kernel

/-- R64: the clock passes from 4294967295 to 0. -/
theorem test_clock_wraps :
    (after .tick { up with clock := { value := 4294967295, isSet := true, second := some 0 } }).clock.value = 0 := by
  decide +kernel

/-- R178: the CRC of the characters of 123456789 under 1021h from FFFFh is 29B1h, the known check value of that CRC. -/
theorem test_crc_check_value : crcOf [0x31, 0x32, 0x33, 0x34, 0x35, 0x36, 0x37, 0x38, 0x39] = 0x29B1#16 := by decide +kernel

/-- 10, a morning on the station line: a READ NOTICES that comes while a response is owed is discarded. -/
theorem test_request_discarded_while_owed :
    after (.readNotices .station 23#8 []) (after (.readClock .station 22#8 []) up) =
      after (.readClock .station 22#8 []) up := by decide +kernel

/-- R184, R185: after an ESTOP, a READ NOTICES empties its own port's set and leaves the other's. -/
theorem test_notices_are_read_by_port :
    (after (.readNotices .station 1#8 []) (after .estopAssert up)).attention .station = false ∧
      (after (.readNotices .station 1#8 []) (after .estopAssert up)).attention .panel = true := by decide +kernel

/-- R190, R192, R197: a load pair that nothing has given is read as unset, and one put at its default values as given. -/
theorem test_load_pair_presence :
    settingRecord defaultSettings (.loadCal .g1 .left) = [0, 0, 0, 0, 0] ∧
      settingRecord (storeSetting defaultSettings (.loadCal .g1 .left) (.optionalPair 1 ⟨819, 4095⟩)).1 (.loadCal .g1 .left) =
        [1, 0x03, 0x33, 0x0F, 0xFF] ∧
      (storeSetting settings (.loadCal .g1 .left) (.optionalPair 0 ⟨1, 2⟩)) = (settings, false) := by decide +kernel

/-! ### Witnesses: links and reads -/

/-- `up` with the key turned: LOCAL asserted and the seat with the panel. -/
def local_ : State := { up with lines := { up.lines with localKey := true }, seat := .panel }

/-- `up` in another supply state. -/
def supplyIn (st : SupplyState) : State := { up with supply := { up.supply with st := st, phase := some 5 } }

/-- `up` with the reception of a port as given. -/
def receiving (p : Port) (rx : RxState) (buffer : List Byte) : State :=
  up.updLink p fun l => { l with rx := rx, buffer := buffer, gap := some 20 }

/-- `up` with the answer to a READ CLOCK owed at the station port. -/
def owing : State := after (.readClock .station 22#8 []) up

theorem witness_StepTakesFrontCommand :
    (up.withPending [.tick]).pending = .tick :: [] ∧ up.pending = [] ∧ up.measure.scanTimer = some 10 ∧
      (moving.gate .g1).stepTimer = some 100 ∧ (upWith .travel .inForce .none).pending = [] := by decide +kernel

/-- An empty queue counts a millisecond off the scan timer, and leaves a timer that has run down at 0. -/
theorem test_idle_counts_timers_down :
    (match step up with | .next t => t.measure.scanTimer | _ => none) = some 9 ∧
      (match step { up with clock := { up.clock with second := some 0 } } with | .next t => t.clock.second | _ => none) =
        some 0 := by decide +kernel

theorem witness_RequestsNotTaken_owed :
    requestOf (.identify .station 5#8 []) = some (.station, .identify, 5#8, []) ∧ receives owing .station = true ∧
      owing.address ≠ 0 ∧ owes owing .station = true := by decide +kernel

theorem witness_RequestsNotTaken_deaf :
    receives State.reset .station = false ∧ { up with address := 0 }.address = 0 ∧
      receives (after (.responseStart .station) owing) .station = false := by decide +kernel

theorem up_takes (p : Port) : up.takes p := by cases p <;> (unfold State.takes; decide)

theorem witness_SeatNeeds_seat :
    requestOf (.park .panel 1#8 []) = some (.panel, .park, 1#8, []) ∧ up.takes .panel ∧ Port.panel ≠ up.seat ∧
      Port.station = up.seat := ⟨rfl, up_takes _, by decide, rfl⟩

theorem witness_SeatNeeds_local :
    up.takes .panel ∧ ¬ (Port.panel = .panel ∧ up.lines.localKey = true) ∧ local_.takes .panel ∧
      local_.lines.localKey = true ∧ ¬ (Port.station = .panel ∧ local_.lines.localKey = true) :=
  ⟨up_takes _, by decide, by unfold State.takes; decide, rfl, by decide⟩

theorem witness_SeatNeeds_none :
    requestOf (.identify .panel 1#8 []) = some (.panel, .identify, 1#8, []) ∧ up.takes .panel := ⟨rfl, up_takes _⟩

theorem witness_WakeCondition :
    up.supply.st = .run ∧ State.reset.started = false ∧ (supplyIn .waking).supply.st = .waking ∧
      (supplyIn .parking).started = true ∧ (supplyIn .parking).supply.st = .parking ∧
      (supplyIn .parked).supply.st = .parked ∧ (supplyIn .parked).measure.scan = none ∧
      (after .scanTimerExpiry (supplyIn .parked)).supply.st = .parked ∧
      (after .scanTimerExpiry (supplyIn .parked)).measure.scan = some { mode := .levelsOnly, next := 25 } := by
  decide +kernel

theorem witness_CharacterReception :
    receives State.reset .panel = false ∧ receives up .station = true ∧ awaitsLast (up.link .station) = false ∧
      (up.link .station).rx = .hunt ∧
      awaitsLast ((receiving .station .header []).link .station) = false ∧
      awaitsLast ((receiving .station .header [7]).link .station) = false ∧
      awaitsLast ((receiving .station .body [7, 1]).link .station) = false ∧
      awaitsLast ((receiving .station .check [7, 1, 9]).link .station) = false ∧
      (1 ≤ (1#8).toNat ∧ (250#8).toNat ≤ 250 ∧ (0#8).toNat = 0 ∧ 250 < (251#8).toNat) := by decide +kernel

/-- The CRC, high byte first, of the READ CLOCK frame of address 7, sequence 33. -/
def clockCrc : Nat := (crcOf [7, 2, 0x49, 33]).toNat

theorem witness_FrameReceivedIsRequest :
    requestOf (.readClock .station 33#8 []) = some (.station, .readClock, 33#8, []) ∧ receives up .station = true ∧
      (up.link .station).rx = .hunt ∧ 1 ≤ up.address ∧ up.address ≤ 31 ∧ ([] : List Byte).length + 2 ≤ 250 ∧
      (2#8 : Byte) = BitVec.ofNat 8 (([] : List Byte).length + 2) ∧
      (crcOf [BitVec.ofNat 8 up.address, 2, kindCode .readClock, 33]).toNat =
        (BitVec.ofNat 8 (clockCrc / 256)).toNat * 256 + (BitVec.ofNat 8 clockCrc).toNat := by decide +kernel

theorem witness_FrameReceivedIsRequest_longest :
    (List.replicate 248 (0#8 : Byte)).length + 2 ≤ 250 ∧
      (250#8 : Byte) = BitVec.ofNat 8 ((List.replicate 248 (0#8 : Byte)).length + 2) := by decide +kernel

/-- `up` with all but the last character of a frame of the body given received at the station port. -/
def awaiting (addr : Byte) (body : List Byte) : State :=
  let len : Byte := BitVec.ofNat 8 body.length
  receiving .station .check (addr :: len :: (body ++ [BitVec.ofNat 8 ((crcOf (addr :: len :: body)).toNat / 256)]))

/-- What a frame that FRAME_COMPLETE completes has: the form of the hypotheses of FrameJudgement, with a good CRC. -/
def judged (addr : Byte) (body : List Byte) : Bool :=
  let s := awaiting addr body
  let len : Byte := BitVec.ofNat 8 body.length
  let crc := (crcOf (addr :: len :: body)).toNat
  receives s .station && (s.link .station).rx == .check &&
    (s.link .station).buffer == addr :: len :: (body ++ [BitVec.ofNat 8 (crc / 256)]) && body.length == len.toNat &&
    crc == (BitVec.ofNat 8 (crc / 256)).toNat * 256 + (BitVec.ofNat 8 crc).toNat

theorem witness_FrameJudgement_good :
    judged 7 [0x49, 33] = true ∧ judged 12 [0x49, 33] = true ∧ judged 7 [0x49] = true ∧ judged 7 [0xC9, 33] = true ∧
      judged 7 [0x7F, 33] = true ∧ (awaiting 7 [0x49, 33]).address = 7 := by decide +kernel

theorem witness_FrameJudgement_kinds :
    (0xC9#8).msb = true ∧ (0x7F#8).msb = false ∧ (∀ k, kindCode k ≠ 0x7F#8) ∧ kindCode .readClock = 0x49#8 ∧
      owes (awaiting 7 [0x7F, 33]) .station = false :=
  ⟨by decide, by decide, by intro k; cases k <;> decide, rfl, by decide +kernel⟩

theorem witness_FrameJudgement_bad :
    (crcOf [7, 2, 0x49, 33]).toNat ≠
      (BitVec.ofNat 8 (clockCrc / 256)).toNat * 256 + (BitVec.ofNat 8 (clockCrc + 1)).toNat := by decide +kernel

theorem witness_CharacterReception_discard :
    receives (receiving .station .body [7, 3]) .station = true ∧
      ((receiving .station .body [7, 3]).link .station).gap = some 20 ∧ (up.link .station).gap = none := by decide +kernel

theorem witness_ResponseSending :
    (∃ r f, (owing.link .station).request = some r ∧ r.progress = .ready f) ∧
      (∃ r f, ((after (.readClock .panel 22#8 []) up).link .panel).request = some r ∧ r.progress = .ready f) ∧
      ∃ r f, ((after (.responseStart .station) owing).link .station).request = some r ∧ r.progress = .sending f :=
  ⟨⟨_, _, rfl, rfl⟩, ⟨_, _, rfl, rfl⟩, ⟨_, _, rfl, rfl⟩⟩

theorem witness_ReadNotices : up.takes .station ∧ (after .estopAssert up).takes .panel :=
  ⟨up_takes _, by unfold State.takes; decide +kernel⟩

/-- Values at the ends of a signed field; holders with an order in force and in TRIM; a gate on the wait list. -/
theorem witness_ReadsOfTheDevice :
    up.takes .panel ∧ fits16 up.measure.head ∧ fits16 (-32768) ∧ fits16 32767 ∧ ¬ fits16 32768 ∧ moving.takes .panel ∧
      moving.arbiter.holders[0]? = some { gate := .g1, named := false } ∧ (moving.gate .g1).st ≠ .trim ∧
      moving.orderInForce .g1 = some (order 1 .inForce .none) ∧
      ((moving.updGate .g1 fun q => { q with st := .trim }).gate .g1).st = .trim ∧
      (upWith .waitGrant .inForce .none).arbiter.waiters.Nodup ∧
      (waitList (upWith .waitGrant .inForce .none))[0]? = some .g1 :=
  ⟨up_takes _, by decide, by decide, by decide, by decide, by unfold State.takes; decide +kernel, by decide +kernel,
    by decide +kernel, by decide +kernel, by decide +kernel, by decide +kernel, by decide +kernel⟩

/-- R189: the bits of a flags character and a field of two characters, at the sign's turn. -/
theorem test_field_layouts :
    bitsOf [true, false, true] = 5 ∧ chars2 0x1770 = [0x17, 0x70] ∧ chars2s (-32768) = [0x80, 0] ∧ chars2s (-1) = [0xFF, 0xFF] ∧
      chars4 0x01020304 = [1, 2, 3, 4] := by decide +kernel

/-- `up` with nine QUEUED orders on G1. -/
def nineOrders : State := up.updQueue .g1 fun _ => (List.range 9).map fun k => order (k + 1) .queued .none

theorem witness_ListOrdersInOrder :
    up.takes .panel ∧ nineOrders.takes .panel ∧ nineOrders.numbersDistinct ∧ nineOrders.liveOrders.length = 9 :=
  ⟨up_takes _, by unfold State.takes; decide +kernel, by unfold State.numbersDistinct; decide +kernel, by decide +kernel⟩

theorem witness_ReadsByNumber_gates :
    moving.takes .panel ∧ gateOf (1#8).toNat = some .g1 ∧ gateOf (6#8).toNat = some .g6 ∧ (0#8).toNat = 0 ∧
      6 < (7#8).toNat := by refine ⟨?_, ?_⟩ <;> (try unfold State.takes) <;> decide +kernel

/-- `up` with an empty set 9. -/
def withSet (r : SetRec) : State := { up with store := { up.store with sets := [r] } }

theorem witness_ReadsByNumber_orders :
    moving.findOrder ((0#8).toNat * 256 + (1#8).toNat) = some (.g1, order 1 .inForce .none) ∧
      (∀ x ∈ moving.liveOrders, x.2.number ≠ (0#8).toNat * 256 + (2#8).toNat) ∧
      (withSet ⟨9, [1], false, false, false⟩).findSet (9#8).toNat = some ⟨9, [1], false, false, false⟩ ∧
      (∀ r ∈ (withSet ⟨9, [1], false, false, false⟩).store.sets, r.number ≠ (8#8).toNat) := by decide +kernel

/-- The clauses on records: an outcome recorded, an order of a queue, a fault record and none, members that live, and entries
of the isolation table from its first place and from its last. -/
theorem witness_ReadsByNumber_records :
    (up.gate .g1).outcome = none ∧
      ((up.updGate .g1 fun q => { q with outcome := some ⟨1, 0, .routine, .faulted, none, none⟩ }).gate .g1).outcome =
        some ⟨1, 0, .routine, .faulted, none, none⟩ ∧
      (moving.queue .g1)[0]? = some (order 1 .inForce .none) ∧ (moving.gate .g1).fault = none ∧
      fits16 (order 1 .inForce .none).target ∧ moving.arbiter.waiters.Nodup ∧
      { moving with store := { moving.store with sets := [⟨9, [1], false, false, false⟩] } }.findSet 9 =
        some ⟨9, [1], false, false, false⟩ ∧
      (∀ n ∈ [1], ∃ y ∈ moving.liveOrders, y.2.number = n) ∧ moving.findOrder 1 = some (.g1, order 1 .inForce .none) := by
  decide +kernel

theorem witness_ReadsByNumber_others :
    (1 ≤ (1#8).toNat ∧ (24#8).toNat ≤ 24) ∧ ((0#8).toNat = 0 ∧ 24 < (25#8).toNat) ∧
      settingOf (57#8).toNat (6#8).toNat = .ok (.tuning .stallDistance .g6) ∧
      settingOf (58#8).toNat (1#8).toNat = .error .badField ∧ settingOf (40#8).toNat (7#8).toNat = .error .badGate ∧
      (1#8).toNat = 2 * gateNumber .g1 - 1 ∧ (12#8).toNat = 2 * gateNumber .g6 - 0 ∧
      (up.geo .g1).loadCal.get .left = none ∧ (up.geo .g1).posCal.get .left = some ⟨819, 4095⟩ := by
  refine ⟨by decide, by decide, rfl, rfl, rfl, rfl, rfl, rfl, rfl⟩

theorem witness_ReadsNeverShowCodes :
    requestOf (.listIsolations .panel 1#8 [1]) = some (.panel, .listIsolations, 1#8, [1]) := rfl

/-! ### Witnesses: settings -/

theorem serves_seat (k : Kind) (h : seatNeed k = .seat) : up.serves .station k :=
  ⟨up_takes _, by rw [h]; decide⟩

theorem moving_serves (k : Kind) (h : seatNeed k = .seat) : moving.serves .station k :=
  ⟨by unfold State.takes; decide +kernel, by rw [h]; decide +kernel⟩

theorem moving_sound :
    moving.quotasHeld ∧ moving.numbersDistinct ∧ moving.queuesRanked ∧ moving.quiet ∧ moving.slotsSound ∧
      moving.limitHeld :=
  ⟨⟨by decide +kernel, fun g => by cases g <;> decide +kernel⟩,
    by unfold State.numbersDistinct; decide +kernel,
    ⟨fun g => by cases g <;> decide +kernel, by decide +kernel⟩,
    by unfold State.quiet; decide +kernel,
    ⟨fun g => by cases g <;> decide +kernel, by decide +kernel, by decide +kernel, rfl, rfl⟩,
    by unfold State.limitHeld; decide +kernel⟩

theorem witness_PutTuningOrSiteItem_tuning :
    up.serves .station .putSetting ∧ (47#8).toNat = 40 + 7 ∧ (57#8).toNat = 40 + 17 ∧ (40#8).toNat = 40 + 0 ∧
      gateOf (6#8).toNat = some .g6 ∧ (0 : Nat) / 50 * 50 = 0 ∧ (65535 : Nat) / 50 * 50 = 65500 :=
  ⟨serves_seat _ rfl, rfl, rfl, rfl, rfl, rfl, rfl⟩

/-- A limit that acts, on MAINS and on BATTERY, and one that does not: another source, and WAKING. -/
theorem witness_PutTuningOrSiteItem_limits :
    moving.serves .station .putSetting ∧ moving.slotsSound ∧ moving.limitHeld ∧ moving.trimsBare ∧
      moving.supply.st = .run ∧ moving.supply.source = .mains ∧
      { moving with supply := { moving.supply with source := .battery } }.supply.source = .battery ∧
      (supplyIn .waking).supply.st ≠ .run :=
  ⟨moving_serves _ rfl, moving_sound.2.2.2.2.1, moving_sound.2.2.2.2.2, fun g => by cases g <;> decide +kernel,
    by decide +kernel, by decide +kernel, rfl, by decide⟩

/-- Head bands: eight distinct, nine, and two equal only once clamped to 20000. -/
theorem witness_PutTuningOrSiteItem_bands :
    (∀ b ∈ (List.range 8).map (fun k => (⟨k, 50⟩ : Band)), b.threshold < 65536 ∧ b.limit < 65536) ∧
      (((List.range 8).map fun k => (⟨k, 50⟩ : Band)).map fun b => b.threshold).Nodup ∧
      8 < ((List.range 9).map fun k => (⟨k, 50⟩ : Band)).length ∧
      ¬ (([⟨20000, 60⟩, ⟨20001, 70⟩] : List Band).map fun b => min 20000 b.threshold).Nodup := by decide

/-- Gauge pairs of a span of 999 and of 1000 codes, each way; the gauge indexes; and the channels of the windows. -/
theorem witness_PutTuningOrSiteItem_gauges :
    (3 * 256 + 232 = (1000 : Nat)) ∧ ((1000 : Nat) < 1 + 1000 ∧ 1 < 1000 + 1000) ∧ (0 : Nat) + 1000 ≤ 1000 ∧
      (9#8).toNat = 9 ∧ channelOf (1#8).toNat = some (.position .g1 .left) ∧
      channelOf (28#8).toNat = some (.gauge .down .b) := by decide

/-- `up` with G1's geometry as given, and G1 in the state given. -/
def gateOne (st : GateState) (geo : Geometry) : State :=
  { up with settings := { settings with gates := settings.gates.set .g1 { geo := geo, tune := defaultTuning } } }.updGate .g1
    fun q => { q with st := st }

theorem witness_PutGeometryItem_refused :
    up.serves .station .putSetting ∧ moving.serves .station .putSetting ∧ gateNumber .g1 = 1 ∧
      ((gateOne .idle { geometry with locked := true }).geo .g1).locked = true ∧ (moving.geo .g1).locked = false ∧
      (moving.gate .g1).st = .travel ∧ moving.queue .g1 ≠ [] ∧
      ¬ (min 4095 100 + 1000 ≤ min 4095 1099 ∨ min 4095 1099 + 1000 ≤ min 4095 (100 : Nat)) ∧
      (min 4095 100 + 1000 ≤ min 4095 (1100 : Nat)) ∧ ¬ (min 4095 3096 + 1000 ≤ min 4095 (5000 : Nat)) :=
  ⟨serves_seat _ rfl, moving_serves _ rfl, rfl, by decide +kernel, by decide +kernel, by decide +kernel,
    by decide +kernel, by decide, by decide, by decide⟩

theorem witness_PutGeometryItem_taken :
    (∀ st ∈ [GateState.idle, .fault, .disabled],
      (gateOne st { geometry with fullTravel := none }).takes .station ∧
      ((gateOne st { geometry with fullTravel := none }).gate .g1).st = st ∧
      ((gateOne st { geometry with fullTravel := none }).geo .g1).locked = false ∧
      (gateOne st { geometry with fullTravel := none }).queue .g1 = [] ∧
      badChannels (gateOne st { geometry with fullTravel := none }) .g1 = none) ∧
      up.quiet ∧ geometryValid { geometry with fullTravel := some 1000 } = true ∧
      geometryValid { geometry with fullTravel := none } = false ∧
      badChannels (up.updHoistMeas .g1 .left fun m => { m with posStanding := .invalid }) .g1 = some .left :=
  ⟨by unfold State.takes; decide +kernel, by unfold State.quiet; decide, by decide, by decide, by decide +kernel⟩

/-- The geometry items of a hoist: their index on G1 and G6, and an Fh that lowers R_g and one that does not. -/
theorem witness_PutGeometryItem_items :
    (1#8).toNat = 2 * gateNumber .g1 - 1 ∧ (12#8).toNat = 2 * gateNumber .g6 - 0 ∧ min (1600 : Nat) 1200 = 1200 ∧
      { geometry with maxSpeed := some 1500 }.maxSpeed.any (fun r => decide (1200 < r)) = true ∧
      geometry.maxSpeed.any (fun r => decide (1200 < r)) = false ∧
      geometryValid { geometry with fullSpeed := none } = false := by decide

theorem up_empty (g : Gate) : up.queue g = [] := by cases g <;> rfl

theorem witness_Apportion :
    up.takes .station ∧ Port.panel ≠ up.seat ∧ Port.station = up.seat ∧ moving.seat = .station ∧ moving.queue .g1 ≠ [] ∧
      (∀ g, up.queue g = []) ∧ 48 < (8 + 8 + 8 + 8 + 8 + 9 : Nat) ∧ (8 + 8 + 8 + 8 + 8 + 8 : Nat) ≤ 48 :=
  ⟨up_takes _, by decide, rfl, rfl, by decide +kernel, up_empty, by decide, by decide⟩

/-- `up` with a write in flight. -/
def writing (f : Flight) : State := { up with nvs := { up.nvs with flight := some f, timer := some 5 } }

theorem witness_SettingsWriteRequests :
    gateOf (1#8).toNat = some .g1 ∧ up.serves .station .keepSettings ∧ up.serves .station .lockGeometry ∧
      local_.serves .panel .unlockGeometry ∧ up.nvs.settingsJob = false ∧ up.nvs.isolationJob = false ∧
      up.nvs.flight = none ∧ (writing (.settings settings)).nvs.flight = some (.settings settings) ∧
      (writing (.isolation ⟨[], false⟩)).nvs.flight = some (.isolation ⟨[], false⟩) :=
  ⟨rfl, serves_seat _ rfl, serves_seat _ rfl, by unfold State.serves State.takes; decide, rfl, rfl, rfl, rfl, rfl⟩

/-- `moving` with `n` isolations of G2, the codes 1 to `n`, the first not Kept. -/
def isolated (n : Nat) : State :=
  moving.updEntries fun _ => (List.range n).map fun k =>
    { code := k + 1, scope := .gate .g2, crew := 0, port := .panel, second := none, kept := k != 0, placement := k }

/-- `up` with an isolation placed from the panel that waits on its write. -/
def placed : State := after (.placeIsolation .panel 5#8 [0, 0, 0x11, 0x77, 2, 0, 9]) up

theorem witness_WriteCompletions_isolation :
    placed.nvs.flight = some (.isolation placed.isolations.image) ∧
      (∃ r, (placed.link .panel).request = some r ∧ r.progress = .waiting true (.placement 1 0)) ∧
      waitsOnSettings (.placement 1 0) = false ∧ placed.nvs.isolationJob = false ∧ placed.nvs.settingsJob = false ∧
      (after (.keepSettings .station 1#8 []) placed).nvs.settingsJob = true ∧
      (after (.removeIsolation .station 6#8 [0, 0, 0x11, 0x77, 2]) placed).nvs.isolationJob = true :=
  ⟨by decide +kernel, ⟨_, rfl, rfl⟩, rfl, by decide +kernel, by decide +kernel, by decide +kernel, by decide +kernel⟩

/-- R150: a placement whose entry is removed while its write is in flight still reports Kept, for the write held it. -/
theorem test_placement_kept_though_removed :
    let s := after (.isolationWriteComplete true) (after (.removeIsolation .station 6#8 [0, 0, 0x11, 0x77, 2]) placed)
    s.isolations.entries = [] ∧ (s.link .panel).request.map (fun r => r.progress) =
      some (.ready (responseFrame 7 (kindCode .placeIsolation) 5#8 .done .kept [1, 0, 1])) := by decide +kernel

/-- The other requests that wait on an isolation write: a renewal, a removal and a confirmation. -/
theorem witness_WriteCompletions_waiting :
    (∃ r, ((after (.placeIsolation .station 1#8 [0, 0, 0, 1, 2, 0, 0]) (isolated 1)).link .station).request = some r ∧
      r.progress = .waiting true (.renewal 0)) ∧
      (∃ r, ((after (.removeIsolation .station 1#8 [0, 0, 0, 1, 2]) (isolated 1)).link .station).request = some r ∧
        r.progress = .waiting true (.removal 0)) ∧
      (∃ r, ((after (.confirmIsolations .panel 1#8 [])
        { local_ with isolations := { local_.isolations with doubt := true } }).link .panel).request = some r ∧
        r.progress = .waiting true .confirmation) :=
  ⟨⟨_, rfl, rfl⟩, ⟨_, rfl, rfl⟩, ⟨_, rfl, rfl⟩⟩

theorem witness_WriteCompletions_settings :
    (after (.keepSettings .station 1#8 []) up).nvs.flight = some (.settings settings) ∧
      ∃ r, ((after (.keepSettings .station 1#8 []) up).link .station).request = some r ∧
        r.progress = .waiting true .settings :=
  ⟨by decide +kernel, ⟨_, rfl, rfl⟩⟩

/-! ### Witnesses: orders -/

theorem up_sound :
    up.quotasHeld ∧ up.numbersDistinct ∧ up.queuesRanked ∧ up.quiet ∧ up.slotsSound ∧ up.limitHeld :=
  ⟨⟨by decide +kernel, fun g => by cases g <;> decide +kernel⟩,
    by unfold State.numbersDistinct; decide +kernel,
    ⟨fun g => by cases g <;> decide +kernel, by decide +kernel⟩,
    by unfold State.quiet; decide +kernel,
    ⟨fun g => by cases g <;> decide +kernel, by decide +kernel, by decide +kernel, rfl, rfl⟩,
    by unfold State.limitHeld; decide +kernel⟩

/-- The placement that `placement 1 cls opts kind [0, 0, 0x27, lo]` spells. -/
def placementRecord (g cls : Nat) (replace : Bool) (kind param : Nat) : Placement :=
  { gate := g, cls := cls, replace := replace, target := 6000, startKind := kind, startSide := 0, startParam := param,
    rate := none, guard := none, deadline := none, tag := none }

theorem witness_PlaceOrderQueued :
    moving.serves .station .placeOrder ∧
      whole takePlacement (placement 1 1 0 1 [0, 0, 0x27, 0x11]) = some (placementRecord 1 1 false 1 10001) ∧
      gateOf 1 = some .g1 ∧ (moving.gate .g1).st ≠ .disabled ∧ classOf 1 = some .tidal ∧
      startOf (placementRecord 1 1 false 1 10001) = some (.atTime 10001) ∧ moving.clock.isSet = true ∧
      moving.clock.value < 10001 ∧ (moving.queue .g1).length < moving.settings.site.quotas.get .g1 ∧
      moving.store.acceptCount < 4294967295 :=
  ⟨moving_serves _ rfl, by decide +kernel, rfl, by decide +kernel, rfl, by decide +kernel, by decide +kernel,
    by decide +kernel, by decide +kernel, by decide +kernel⟩

theorem witness_PlaceOrderTakesForce :
    up.serves .station .placeOrder ∧
      whole takePlacement (placement 1 0 0 0 [0, 0, 0, 0]) = some (placementRecord 1 0 false 0 0) ∧
      gateOf 1 = some .g1 ∧ (up.gate .g1).st = .idle ∧ classOf 0 = some .routine ∧
      startOf (placementRecord 1 0 false 0 0) = some .immediate ∧ up.queue .g1 = [] ∧
      0 < up.settings.site.quotas.get .g1 ∧ up.arbiter.waiters = [] ∧ up.store.acceptCount < 4294967295 ∧
      boundsFault up .g1 = none ∧ up.arbiter.holders.length < up.arbiter.limit :=
  ⟨serves_seat _ rfl, by decide +kernel, rfl, rfl, rfl, by decide +kernel, rfl, by decide, rfl, by decide, by decide +kernel,
    by decide⟩

/-- A PLACE ORDER of class TIDAL over the ROUTINE order in force: each state a preemption may find, and each of its ends. -/
theorem witness_PlaceOrderTakesForce_preemption :
    (∀ x ∈ [(GateState.releasing, OrderState.inForce, HoldSet.none), (.travel, .inForce, .none), (.reversing, .inForce, .none),
        (.waitGrant, .inForce, .none), (.held, .held, HoldSet.none.put .head true)],
      (upWith x.1 x.2.1 x.2.2).takes .station ∧
      (upWith x.1 x.2.1 x.2.2).orderInForce .g1 = some (order 1 x.2.1 x.2.2) ∧ ((upWith x.1 x.2.1 x.2.2).gate .g1).st = x.1 ∧
      (∀ o ∈ (upWith x.1 x.2.1 x.2.2).queue .g1, classRank .tidal ≤ classRank o.cls →
        eligible (upWith x.1 x.2.1 x.2.2) o = false)) ∧
      classRank (order 1 .inForce .none).cls < classRank .tidal ∧ classOf 1 = some .tidal ∧
      whole takePlacement (placement 1 1 0 0 [0, 0, 0, 0]) = some (placementRecord 1 1 false 0 0) ∧
      (moving.queue .g1).length < moving.settings.site.quotas.get .g1 ∧ moving.quotasHeld ∧ moving.numbersDistinct ∧
      moving.quiet ∧ moving.queuesRanked ∧ { moving with holdAll := true }.holdAll = true ∧
      boundsFault (moving.updHoistMeas .g1 .left fun m => { m with outOfBounds := true }) .g1 = some .left ∧
      boundsFault moving .g1 = none :=
  ⟨by unfold State.takes; decide +kernel, by decide, rfl, by decide +kernel, by decide +kernel, moving_sound.1,
    moving_sound.2.1, moving_sound.2.2.2.1, moving_sound.2.2.1, rfl, by decide +kernel, by decide +kernel⟩

/-- R87: the preempted order is READY again, and the new one is linked; the gate runs on with its settle counter at 0. -/
theorem test_preemption_runs_on :
    let t := after (.placeOrder .station 1#8 (placement 1 1 0 0 [0, 0, 0, 0])) moving
    (t.gate .g1).st = .travel ∧ (t.gate .g1).link = some 2 ∧
      (t.queue .g1).map (fun o => (o.number, o.state)) = [(2, .inForce), (1, .ready)] := by decide +kernel

/-- The hypotheses on the state of PlaceOrderTakesForce, one state for each of its other ends: a hoist out of bounds, the
hold-all flag, a gate already at the target, and no free slot. -/
theorem witness_PlaceOrderTakesForce_ends :
    boundsFault (up.updHoistMeas .g1 .right fun m => { m with outOfBounds := true }) .g1 = some .right ∧
      { up with holdAll := true }.holdAll = true ∧
      (validPosition (up.updHoistMeas .g1 .left fun m => { m with position := some 6020 }) .g1 .left = some 6020 ∧
        ((6000 : Int) - 6020).natAbs ≤ (up.tune .g1).deadBand) ∧
      (up.updArbiter fun a => { a with limit := 0 }).arbiter.limit ≤
        (up.updArbiter fun a => { a with limit := 0 }).arbiter.holders.length := by decide +kernel

theorem witness_PlaceOrderRefusals_layout :
    up.serves .station .placeOrder ∧ (List.replicate 10 (0#8 : Byte)).length < 11 ∧
      whole takePlacement (List.replicate 12 (0#8 : Byte)) = none ∧
      whole takePlacement (placement 0 0 0 0 [0, 0, 0, 0]) = some (placementRecord 0 0 false 0 0) ∧
      whole takePlacement (placement 7 0 0 0 [0, 0, 0, 0]) = some (placementRecord 7 0 false 0 0) ∧
      whole takePlacement (placement 1 3 0 0 [0, 0, 0, 0]) = some (placementRecord 1 3 false 0 0) ∧
      whole takePlacement (placement 1 0 0 4 [0, 0, 0, 0]) = some (placementRecord 1 0 false 4 0) :=
  ⟨serves_seat _ rfl, by decide, by decide +kernel, by decide +kernel, by decide +kernel, by decide +kernel,
    by decide +kernel⟩

theorem witness_PlaceOrderRefusals_states :
    ((gateOne .disabled geometry).gate .g1).st = .disabled ∧ (up.gate .g1).st ≠ .disabled ∧
      { up with clock := { up.clock with isSet := false } }.clock.isSet = false ∧
      (whole takePlacement (placement 1 0 4 0 [0, 0, 0, 0, 0, 0, 0x27, 0x10])).map (fun p => p.deadline) =
        some (some 10000) ∧ (10000 : Nat) ≤ up.clock.value ∧
      { up with settings := { settings with site := { settings.site with quotas := .const 0 } } }.settings.site.quotas.get
        .g1 ≤ (up.queue .g1).length - 0 := by decide +kernel

/-- `moving` with its order of class TIDAL. -/
def tidal : State := moving.updQueue .g1 (List.map fun o => { o with cls := .tidal })

theorem witness_ReplaceSupersedes :
    moving.serves .station .placeOrder ∧
      whole takePlacement (placement 1 0 8 0 [0, 0, 0, 0]) = some (placementRecord 1 0 true 0 0) ∧
      (∃ j, judgePlacement moving (fun _ => false) (placementRecord 1 0 true 0 0) = .ok j ∧ j.gate = .g1 ∧
        moving.orderInForce j.gate = some (order 1 .inForce .none) ∧
        classRank (order 1 .inForce .none).cls ≤ classRank j.cls) ∧
      (∀ o ∈ moving.queue .g1, o.setNo = none) ∧ (moving.gate .g1).st = .travel ∧
      ((upWith .stopping .inForce .none).gate .g1).st = .stopping :=
  ⟨moving_serves _ rfl, by decide +kernel, ⟨_, rfl, rfl, by decide +kernel, by decide⟩, by decide +kernel, by decide +kernel,
    by decide +kernel⟩

/-- The other cases in which the gate does not take an order at once: it keeps a higher order in force, or it is IDLE with
the new order's start not met. -/
theorem witness_ReplaceSupersedes_quiet :
    (∃ j, judgePlacement tidal (fun _ => false) (placementRecord 1 0 true 0 0) = .ok j ∧ j.gate = .g1 ∧
      tidal.orderInForce .g1 = some { order 1 .inForce .none with cls := .tidal } ∧
      classRank j.cls < classRank .tidal ∧
      ∀ o ∈ tidal.queue .g1, classRank j.cls < classRank o.cls → eligible tidal o = false) ∧
      (∃ j, judgePlacement up (fun _ => false) (placementRecord 1 0 true 1 10001) = .ok j ∧
        stateAtAcceptance up j.start = .queued ∧ (up.gate j.gate).st = .idle ∧ (up.gate j.gate).link = none ∧
        up.queue j.gate = []) ∧
      whole takePlacement (placement 1 0 8 1 [0, 0, 0x27, 0x11]) = some (placementRecord 1 0 true 1 10001) ∧
      moving.store.acceptCount < 4294967295 :=
  ⟨⟨_, rfl, by decide +kernel, by decide +kernel, by decide, by decide +kernel⟩,
    ⟨_, rfl, by decide +kernel, by decide +kernel, by decide +kernel, by decide +kernel⟩, by decide +kernel,
    by decide +kernel⟩

/-- R33, R37: the superseded order is the gate's last-outcome record. -/
theorem test_replace_records_superseded :
    ((after (.placeOrder .station 1#8 (placement 1 0 8 1 [0, 0, 0x27, 0x11])) moving).gate .g1).outcome.map
      (fun r => (r.number, r.outcome)) = some (1, .superseded) := by decide +kernel

/-- The payload of a PLACE SET of two members, on G1 and on the gate given, joint start where the flag is 1, the second
waiting for the second 10001. -/
def setPayload (joint g : Nat) : List Byte :=
  [BitVec.ofNat 8 joint, 2] ++ placement 1 0 0 0 [0, 0, 0, 0] ++ placement g 0 0 1 [0, 0, 0x27, 0x11]

/-- The set that payload spells. -/
def setRecordOf (joint : Bool) (g : Nat) : SetPlacement :=
  { joint := joint, members := [placementRecord 1 0 false 0 0, placementRecord g 0 false 1 10001] }

theorem up_sets : up.setsSound ∧ up.linksSound :=
  ⟨⟨by decide +kernel, by decide +kernel, by decide +kernel, (fun x hx => by cases hx), fun g => by cases g <;> decide +kernel⟩,
    fun g => by cases g <;> exact ⟨fun _ => rfl, (fun _ h => by cases h), fun _ h => by cases h⟩⟩

theorem witness_PlaceSetAllOrNone :
    up.serves .station .placeSet ∧ readSetPlacement (setPayload 1 2) = some (setRecordOf true 2) ∧
      24 ≤ { up with store := { up.store with sets := List.replicate 24 ⟨9, [], false, false, false⟩ } }.store.sets.length ∧
      up.store.sets.length < 24 ∧
      (∃ js, judgeMembers up 1 [] (setRecordOf true 2).members = .ok js ∧
        ∃ x ∈ js, stateAtAcceptance up x.1.start = .queued) ∧
      (∃ j, judgePlacement up (fun g => false || ([] : List Gate).contains g) (placementRecord 1 0 false 0 0) = .ok j ∧
        j.gate = .g1) ∧
      judgePlacement up (fun g => false || [Gate.g1].contains g) (placementRecord 1 0 false 1 10001) =
        .error .badField ∧ up.setsSound :=
  ⟨serves_seat _ rfl, by decide +kernel, by decide, by decide, ⟨_, rfl, by decide +kernel⟩, ⟨_, rfl, rfl⟩, rfl, up_sets.1⟩

/-- Acceptance with READY members: no joint start with one of two READY, and a joint start with both; each on a gate that
is IDLE at 5000 mm, away from the target of 6000. -/
theorem witness_PlaceSetAllOrNone_ready :
    readSetPlacement (setPayload 0 2) = some (setRecordOf false 2) ∧
      (∃ js, judgeMembers up 1 [] (setRecordOf false 2).members = .ok js ∧ ∀ x ∈ js, up.queue x.1.gate = []) ∧
      (∃ js, judgeMembers up 1 [] [placementRecord 1 0 false 0 0, placementRecord 2 0 false 0 0] = .ok js ∧
        ∀ x ∈ js, stateAtAcceptance up x.1.start = .ready) ∧
      (∀ g, (up.gate g).st = .idle ∧ up.isolated g = false ∧ boundsFault up g = none ∧
        validPosition up g .left = some 5000 ∧ (up.tune g).deadBand < ((6000 : Int) - 5000).natAbs) :=
  ⟨by decide +kernel, ⟨_, rfl, by decide +kernel⟩, ⟨_, rfl, by decide +kernel⟩, fun g => by cases g <;> decide +kernel⟩

/-- `up` with set 9 of joint start: order 1 on G1 and order 2 on G2, in the states given, order 2 with the start given. -/
def inSet (a b : OrderState) (start : Start) (seen : Bool) : State :=
  (((up.updQueue .g1 fun _ => [{ order 1 a .none with setNo := some 9 }]).updQueue .g2 fun _ =>
    [{ order 2 b .none with setNo := some 9, start := start }]).updSets fun _ => [⟨9, [1, 2], true, seen, false⟩])

theorem inSet_sound (a b : OrderState) (start : Start) (seen : Bool) : (inSet a b start seen).setsSound := by
  refine ⟨by simp [inSet, State.updSets, Config.maxSets], by simp [inSet, State.updSets], ?_, ?_, ?_⟩
  · intro r hr
    obtain rfl := List.mem_singleton.1 hr
    refine ⟨by simp, fun n hn => ?_⟩
    obtain rfl | rfl : n = 1 ∨ n = 2 := by simpa using hn
    · exact ⟨(.g1, { order 1 a .none with setNo := some 9 }), List.mem_cons_self, rfl, rfl⟩
    · exact ⟨(.g2, { order 2 b .none with setNo := some 9, start := start }), List.mem_cons_of_mem _ List.mem_cons_self, rfl,
        rfl⟩
  · intro x hx k hk
    have hx : x ∈ [(Gate.g1, { order 1 a .none with setNo := some 9 }),
      (Gate.g2, { order 2 b .none with setNo := some 9, start := start })] := hx
    obtain rfl | rfl := by simpa using hx
    all_goals
      obtain rfl := Option.some.inj hk
      exact ⟨_, List.mem_cons_self, rfl, by simp [order]⟩
  · intro g r _
    refine Nat.le_trans (List.length_filter_le _ _) ?_
    cases g <;> first | exact Nat.zero_le _ | exact Nat.le_refl 1

/-- A joint-start set that waits, with a member READY and one that waits for the second 10001: the tick to 10001 reaches it,
and one from which 10002 is still to come does not. -/
theorem witness_PlaceSetAllOrNone_start :
    (inSet .ready .queued (.atTime 10001) false).findSet 9 = some ⟨9, [1, 2], true, false, false⟩ ∧
      (inSet .ready .queued (.atTime 10001) false).numbersDistinct ∧
      (inSet .ready .queued (.atTime 10001) false).linksSound ∧
      (∀ g o, (inSet .ready .queued (.atTime 10001) false).queue g = [o] → o.originator = .station ∧ o.target = 6000) ∧
      (inSet .ready .queued (.atTime 10002) false).clock.value + 1 < 10002 ∧
      (inSet .ready .queued (.atTime 10001) false).quiet ∧
      (inSet .ready .queued (.atTime 10001) false).clock.second ≠ none ∧
      (∀ g, ((inSet .ready .queued (.atTime 10001) false).gate g).st = .idle ∧
        boundsFault (inSet .ready .queued (.atTime 10001) false) g = none ∧
        validPosition (inSet .ready .queued (.atTime 10001) false) g .left = some 5000) :=
  ⟨by decide +kernel, by unfold State.numbersDistinct; decide +kernel,
    fun g => by cases g <;> exact ⟨fun _ => rfl, (fun _ h => by cases h), by decide +kernel⟩,
    (fun g o h => by cases g <;> cases h <;> exact ⟨rfl, rfl⟩), by decide +kernel, by unfold State.quiet; decide +kernel,
    by decide +kernel, fun g => by cases g <;> decide +kernel⟩

/-- R58: the tick that makes the last member READY sees the mark, and both members take force; the one before does not. -/
theorem test_joint_start :
    (let t := after .tick (inSet .ready .queued (.atTime 10001) false)
     (t.gate .g1).st = .releasing ∧ (t.gate .g2).st = .releasing ∧ (t.findSet 9).map (fun r => r.allReady) = some true) ∧
      ((after .tick (inSet .ready .queued (.atTime 10002) false)).gate .g1).st = .idle := by decide +kernel

/-- An AMEND ORDER of an order number with a new target of 7000. -/
def amendTarget (n : Byte) : List Byte := [0, n, 0, 1, 0x1B, 0x58]

/-- What it spells. -/
def amendTargetOf (n : Nat) : Amendment :=
  { number := n, mask := 1, target := some 7000, rate := none, guard := none, deadline := none, tag := none }

/-- `moving` with the order 2 waiting behind. -/
def two : State := moving.updQueue .g1 fun l => l ++ [order 2 .ready .none]

/-- G1 in HELD for order 1, held for one reason. -/
def heldFor (r : HoldReason) : State := upWith .held .held (HoldSet.none.put r true)

theorem witness_AmendOrder :
    moving.serves .station .amendOrder ∧ whole takeAmendment (amendTarget 1) = some (amendTargetOf 1) ∧
      maskOk (amendTargetOf 1).mask = true ∧ maskForbidden (amendTargetOf 1).mask = false ∧
      moving.findOrder 1 = some (.g1, order 1 .inForce .none) ∧ (moving.gate .g1).link = some 1 ∧
      two.findOrder 2 = some (.g1, order 2 .ready .none) ∧ (two.gate .g1).link ≠ some 2 ∧
      (∀ x ∈ moving.liveOrders, x.2.number ≠ 2) ∧ maskForbidden 4096 = true ∧ maskOk 4096 = true ∧
      (heldFor .head).orderInForce .g1 = some (order 1 .held { HoldSet.none with head := true }) ∧
      ((heldFor .head).gate .g1).st = .held :=
  ⟨moving_serves _ rfl, by decide +kernel, by decide, by decide, by decide +kernel, by decide +kernel, by decide +kernel,
    by decide +kernel, by decide +kernel, by decide, by decide, by decide +kernel, by decide +kernel⟩

theorem witness_AmendOrder_deadline :
    (whole takeAmendment [0, 1, 0, 8, 0, 0, 0x27, 0x10]).map (fun a => (a.number, a.deadline)) = some (1, some 10000) ∧
      (whole takeAmendment [0, 1, 0, 8, 0, 0, 0x27, 0x11]).map (fun a => (a.number, a.deadline)) = some (1, some 10001) ∧
      moving.clock.isSet = true ∧ (10000 : Nat) ≤ moving.clock.value ∧ moving.clock.value < 10001 := by decide +kernel

theorem witness_AmendBatchAllOrNone :
    moving.serves .station .amendBatch ∧
      readAmendments ([2] ++ amendTarget 1 ++ amendTarget 1) = some [amendTargetOf 1, amendTargetOf 1] ∧
      readAmendments ([2] ++ amendTarget 1 ++ amendTarget 2) = some [amendTargetOf 1, amendTargetOf 2] ∧
      amendRefusal moving (amendTargetOf 1) = none ∧ amendRefusal moving (amendTargetOf 2) = some .noOrder ∧
      (∀ x ∈ [amendTargetOf 1, amendTargetOf 2], amendRefusal two x = none) ∧
      ([amendTargetOf 1, amendTargetOf 2].map fun x => x.number).Nodup :=
  ⟨moving_serves _ rfl, by decide +kernel, by decide +kernel, by decide +kernel, by decide +kernel, by decide +kernel,
    by decide⟩

theorem witness_WithdrawOrder :
    moving.serves .station .withdrawOrder ∧ moving.findOrder 1 = some (.g1, order 1 .inForce .none) ∧
      (order 1 .inForce .none).setNo = none ∧ (moving.gate .g1).link = some 1 ∧ (moving.gate .g1).st = .travel ∧
      two.findOrder 2 = some (.g1, order 2 .ready .none) ∧ (two.gate .g1).link ≠ some 2 ∧
      ((heldFor .all).gate .g1).st = .held ∧
      (heldFor .all).queue .g1 = [order 1 .held { HoldSet.none with all := true }] ∧
      badChannels (heldFor .all) .g1 = none ∧ ((upWith .waitGrant .inForce .none).gate .g1).st = .waitGrant :=
  ⟨moving_serves _ rfl, by decide +kernel, rfl, by decide +kernel, by decide +kernel, by decide +kernel, by decide +kernel,
    by decide +kernel, by decide +kernel, by decide +kernel, by decide +kernel⟩

theorem witness_QueuesEmptied :
    gateOf (1#8).toNat = some .g1 ∧ moving.serves .station .withdrawGate ∧ moving.serves .station .stopAll ∧
      moving.serves .station .clearStore ∧ moving.slotsSound ∧ moving.numbersDistinct ∧
      (∀ x ∈ moving.liveOrders, x.2.setNo = none) ∧ moving.orderInForce .g1 = some (order 1 .inForce .none) ∧
      (moving.gate .g1).st = .travel ∧ moving.queue .g1 = [] ++ [order 1 .inForce .none] ∧ moving.queue .g2 = [] :=
  ⟨rfl, moving_serves _ rfl, moving_serves _ rfl, moving_serves _ rfl, moving_sound.2.2.2.2.1, moving_sound.2.1,
    by decide +kernel, by decide +kernel, by decide +kernel, by decide +kernel, by decide +kernel⟩

/-- A gate in HELD and one in WAIT_GRANT with no other order are calm, and have their position channels valid. -/
theorem witness_QueuesEmptied_calm :
    (∀ o ∈ (heldFor .all).queue .g1, ((heldFor .all).gate .g1).link ≠ some o.number → eligible (heldFor .all) o = false) ∧
      ((heldFor .all).gate .g1).st = .held ∧ badChannels (heldFor .all) .g1 = none ∧ (heldFor .all).takes .station ∧
      (∀ o ∈ (upWith .waitGrant .inForce .none).queue .g1,
        ((upWith .waitGrant .inForce .none).gate .g1).link ≠ some o.number →
          eligible (upWith .waitGrant .inForce .none) o = false) ∧
      ((upWith .waitGrant .inForce .none).gate .g1).st = .waitGrant := by unfold State.takes; decide +kernel

/-- R38: STOP ALL retires its orders WITHDRAWN, CLEAR STORE retires them CLEARED. -/
theorem test_emptied_outcomes :
    ((after (.stopAll .station 1#8 []) moving).gate .g1).outcome.map (fun r => r.outcome) = some .withdrawn ∧
      ((after (.clearStore .station 1#8 []) moving).gate .g1).outcome.map (fun r => r.outcome) = some .cleared := by
  decide +kernel

/-- `heldFor .group` with its order in the broken set 9. -/
def broken : State :=
  { (heldFor .group).updQueue .g1 (List.map fun o => { o with setNo := some 9 }) with
    store := { ((heldFor .group).updQueue .g1 (List.map fun o => { o with setNo := some 9 })).store with
      sets := [⟨9, [1], false, true, true⟩] } }

theorem witness_ReleaseSet :
    broken.serves .station .releaseSet ∧ broken.findSet (9#8).toNat = some ⟨9, [1], false, true, true⟩ ∧
      (∀ x ∈ broken.liveOrders, x.2.setNo = some (9#8).toNat → x.2.state ≠ .ready) ∧
      (∃ o, broken.orderInForce .g1 = some o ∧ o.setNo = some (9#8).toNat ∧
        o.holds = { HoldSet.none with group := true }) ∧ (broken.gate .g1).st = .held ∧
      (∀ r ∈ broken.store.sets, r.number ≠ (8#8).toNat) ∧
      (withSet ⟨9, [1], false, false, false⟩).findSet (9#8).toNat = some ⟨9, [1], false, false, false⟩ :=
  ⟨by unfold State.serves State.takes; decide +kernel, by decide +kernel, by decide +kernel, ⟨_, rfl, rfl, rfl⟩,
    by decide +kernel, by decide +kernel, by decide +kernel⟩

/-! ### Witnesses: gates -/

/-- `up` with G1 in FAULT under a record of the kind given. -/
def faulted (k : FaultKind) : State :=
  up.updGate .g1 fun q => { q with st := .fault, fault := some { kind := k, hoist := .both, second := none, further := 0 } }

/-- A state with the hoists of G1 at two positions. -/
def hoistsAt (l r : Int) (s : State) : State :=
  (s.updHoistMeas .g1 .left fun m => { m with position := some l }).updHoistMeas .g1 .right
    fun m => { m with position := some r }

/-- A state with the left position channel of G1 not valid. -/
def badLeft (s : State) : State := s.updHoistMeas .g1 .left fun m => { m with posStanding := .invalid }

/-- A state with ESTOP asserted. -/
def stopped (s : State) : State := { s with lines := { s.lines with estop := true } }

theorem faulted_serves (k : FaultKind) : (faulted k).serves .station .clearFault := by
  unfold State.serves State.takes; cases k <;> decide +kernel

theorem witness_ClearFault :
    up.serves .station .clearFault ∧ gateOf (1#8).toNat = some .g1 ∧ (up.gate .g1).st ≠ .fault ∧
      (up.gate .g1).fault = none ∧ (faulted .stall).serves .station .clearFault ∧ ((faulted .stall).gate .g1).st = .fault ∧
      ((faulted .stall).gate .g1).fault = some { kind := .stall, hoist := .both, second := none, further := 0 } ∧
      ((faulted .stall).gate .g1).link = none ∧ firstEligible (faulted .stall) .g1 = none ∧
      ((stopped (faulted .estop)).gate .g1).fault = some { kind := .estop, hoist := .both, second := none, further := 0 } ∧
      (stopped (faulted .estop)).lines.estop = true ∧ badChannels (badLeft (faulted .position)) .g1 = some .left :=
  ⟨serves_seat _ rfl, rfl, by decide, rfl, faulted_serves _, rfl, rfl, rfl, rfl, rfl, rfl, by decide +kernel⟩

theorem witness_ClearFault_skew :
    ((faulted .skew).gate .g1).fault = some { kind := .skew, hoist := .both, second := none, further := 0 } ∧
      badChannels (faulted .skew) .g1 = none ∧ (faulted .skew).isolated .g1 = false ∧
      (faulted .skew).lines.estop = false ∧ (faulted .skew).arbiter.waiters = [] ∧
      (faulted .skew).arbiter.holders.length < (faulted .skew).arbiter.limit ∧
      ((faulted .skew).updArbiter fun a => { a with limit := 0 }).arbiter.limit ≤ (faulted .skew).arbiter.holders.length := by
  decide +kernel

/-- A SKEW record that may not lead to a trim: a position channel not valid, the gate isolated, ESTOP asserted. -/
theorem witness_ClearFault_no_trim :
    badChannels (badLeft (faulted .skew)) .g1 = some .left ∧ firstEligible (badLeft (faulted .skew)) .g1 = none ∧
      { faulted .skew with isolations := { entries := [], doubt := true, nextPlacement := 0 } }.isolated .g1 = true ∧
      (stopped (faulted .skew)).lines.estop = true ∧ firstEligible (stopped (faulted .skew)) .g1 = none ∧
      (badLeft (faulted .skew)).serves .station .clearFault ∧ ((badLeft (faulted .skew)).gate .g1).link = none ∧
      (badLeft (faulted .skew)).quiet := by
  unfold State.serves State.takes State.quiet; decide +kernel

/-- R136: a SKEW cleared under ESTOP leaves the gate in IDLE, with no trim. -/
theorem test_skew_cleared_under_estop :
    ((after (.clearFault .station 1#8 [1]) (stopped (faulted .skew))).gate .g1).st = .idle := by decide +kernel

theorem witness_ResetGate :
    moving.serves .station .resetGate ∧ gateOf (1#8).toNat = some .g1 ∧ moving.numbersDistinct ∧
      moving.queue .g1 = [] ++ [order 1 .inForce .none] ∧ geometryValid (moving.geo .g1) = true ∧
      badChannels moving .g1 = none ∧ badChannels (badLeft moving) .g1 = some .left ∧
      geometryValid ((gateOne .disabled { geometry with fullTravel := none }).geo .g1) = false ∧
      ((faulted .skew).gate .g1).fault ≠ none ∧ up.queue .g1 = [] :=
  ⟨moving_serves _ rfl, rfl, moving_sound.2.1, by decide +kernel, by decide +kernel, by decide +kernel, by decide +kernel,
    by decide +kernel, by decide +kernel, rfl⟩

theorem witness_HoldAndReleaseAll :
    up.takes .panel ∧ { up with holdAll := true }.holdAll = true ∧ moving.takes .panel ∧ moving.holdAll = false ∧
      moving.quiet ∧ moving.orderInForce .g1 = some (order 1 .inForce .none) ∧ (order 1 .inForce .none).holds.all = false ∧
      (moving.gate .g1).st = .travel ∧ up.serves .station .releaseAll ∧
      { heldFor .all with holdAll := true }.serves .station .releaseAll ∧ (heldFor .all).quiet ∧
      (heldFor .all).orderInForce .g1 = some (order 1 .held { HoldSet.none with all := true }) ∧
      ((heldFor .all).gate .g1).st = .held :=
  ⟨up_takes _, rfl, by unfold State.takes; decide +kernel, by decide +kernel, moving_sound.2.2.2.1, by decide +kernel, rfl,
    by decide +kernel, serves_seat _ rfl, by unfold State.serves State.takes; decide +kernel,
    by unfold State.quiet; decide +kernel, by decide +kernel, by decide +kernel⟩

/-- What a travel step of G1 starts from, in the form of the hypotheses of TravelStepEnds. -/
def steps (l r : Int) (s : State) : Prop :=
  (s.gate .g1).st = .travel ∧ (s.gate .g1).stepTimer = some 100 ∧ (∃ o, s.orderInForce .g1 = some o ∧ o.setNo = none ∧
    o.holds.head = false ∧ o.target = 6000) ∧ (s.hoistMeas .g1 .left).position = some l ∧
    (s.hoistMeas .g1 .right).position = some r ∧ s.quiet ∧ (s.gate .g1).fault = none

theorem steps_at (l r : Int) (h : (hoistsAt l r moving).hoistMeas .g1 .left = { hoistAt5000 with position := some l } ∧
    (hoistsAt l r moving).hoistMeas .g1 .right = { hoistAt5000 with position := some r }) : steps l r (hoistsAt l r moving) :=
  ⟨rfl, rfl, ⟨_, rfl, rfl, rfl, rfl⟩, by rw [h.1], by rw [h.2], ⟨rfl, rfl⟩, rfl⟩

/-- G1 at rest in the dead band of 20 mm at its edge, and outside it by 1 mm; the settle count of 5 reached and missed. -/
theorem witness_TravelStepEnds_band :
    steps 5980 5980 (hoistsAt 5980 5980 moving) ∧ steps 5979 5979 (hoistsAt 5979 5979 moving) ∧
      ((6000 : Int) - 5980).natAbs ≤ (moving.tune .g1).deadBand ∧ ¬ ((6000 : Int) - 5979).natAbs ≤ (moving.tune .g1).deadBand ∧
      (moving.tune .g1).settleCount ≤ 4 + 1 ∧ ¬ (moving.tune .g1).settleCount ≤ 3 + 1 :=
  ⟨steps_at _ _ ⟨rfl, rfl⟩, steps_at _ _ ⟨rfl, rfl⟩, by decide +kernel⟩

/-- A turn against a previous demand, a raise guard above the head, a skew of the trip of 80 and of 81, and a stall window
at its last step. -/
theorem witness_TravelStepEnds_others :
    steps 5000 5000 (hoistsAt 5000 5000 moving) ∧ steps 5080 5000 (hoistsAt 5080 5000 moving) ∧
      steps 5081 5000 (hoistsAt 5081 5000 moving) ∧ ((-100 : Int) < 0 ∧ 0 < (24 * (6000 - 5000) : Int).tdiv 16) ∧
      moving.measure.head < 1 ∧ ((5080 : Int) - 5000).natAbs ≤ (moving.tune .g1).skewTrip ∧
      (moving.tune .g1).skewTrip < ((5081 : Int) - 5000).natAbs ∧ (moving.tune .g1).stallSteps ≤ 19 + 1 ∧
      ((5000 : Int) - 5009).natAbs < (moving.tune .g1).stallDistance :=
  ⟨steps_at _ _ ⟨rfl, rfl⟩, steps_at _ _ ⟨rfl, rfl⟩, steps_at _ _ ⟨rfl, rfl⟩, by decide +kernel⟩

/-- `moving` with a table of two head bands. -/
def banded : State :=
  { moving with settings := { moving.settings with site := { moving.settings.site with bands := [⟨0, 900⟩, ⟨2000, 400⟩] } } }

/-- R114: a head of −2500 takes the band of 2000, a disputed head the smallest band; R115: BATTERY takes the economy cap. -/
theorem test_speed_limits :
    speedLimit { banded with measure := { banded.measure with head := -2500 } } .g1 none = 400 ∧
      speedLimit { banded with measure := { banded.measure with head := 1999 } } .g1 none = 900 ∧
      speedLimit { banded with measure := { banded.measure with headDisputed := true } } .g1 none = 400 ∧
      speedLimit { moving with supply := { moving.supply with source := .battery } } .g1 none =
        min 1600 moving.settings.site.economy := by decide +kernel

/-- R111, R116, R122: a step at rest in the dead band leaves v_prev at 0 and the stall window empty, as it completes the
settle count and as it fails the skew test. -/
theorem test_step_at_rest :
    let arrives := (hoistsAt 6000 6000 moving).updGate .g1 fun q => { q with settle := 4, vPrev := 50, window := some ⟨5900, 3⟩ }
    let skewed := (hoistsAt 6045 5955 moving).updGate .g1 fun q => { q with vPrev := 50, window := some ⟨5900, 3⟩ }
    let ends (s : State) : GateState × Int × Option StallWindow :=
      let q := (after (.travelStep .g1) s).gate .g1
      (q.st, q.vPrev, q.window)
    ends arrives = (.stopping, 0, none) ∧ ends skewed = (.fault, 0, none) := by decide +kernel

/-- The skew test at rest: in the dead band, and outside it with a raw demand of 0. -/
theorem witness_SkewTest_rest :
    steps 6041 5960 (hoistsAt 6041 5960 moving) ∧ ((6000 : Int) - (6041 + 5960 : Int).tdiv 2).natAbs ≤
      (moving.tune .g1).deadBand ∧ (moving.gate .g1).settle + 1 < (moving.tune .g1).settleCount ∧
      (moving.tune .g1).skewTrip < ((6041 : Int) - 5960).natAbs ∧ (1 * 15 : Int).tdiv 16 = 0 :=
  ⟨steps_at _ _ ⟨rfl, rfl⟩, by decide +kernel, by decide +kernel, by decide +kernel, by decide⟩

theorem witness_SkewTest :
    steps 5081 5000 (hoistsAt 5081 5000 moving) ∧ (moving.tune .g1).skewTrip < ((5081 : Int) - 5000).natAbs ∧
      (moving.tune .g1).deadBand < ((6000 : Int) - (5081 + 5000 : Int).tdiv 2).natAbs ∧ (moving.gate .g1).vPrev = 0 :=
  ⟨steps_at _ _ ⟨rfl, rfl⟩, by decide +kernel, by decide +kernel, by decide +kernel⟩

/-- Step inputs of a move from 5000 to 6000 that drives. -/
def inputs : StepInputs :=
  { target := 6000, left := 5000, right := 5000, vPrev := 0, settle := 0, window := none, vmax := 1600, fullSpeed := 1600,
    guard := none, head := 0, disputed := false, tune := defaultTuning }

theorem witness_TravelNeverRunsAgainstTheMove :
    tuningOk inputs.tune = true ∧ 200 ≤ inputs.fullSpeed ∧ inputs.fullSpeed ≤ 5000 ∧
      ∃ n v w l r, travelComputation inputs = .moved n v w l r :=
  ⟨by decide +kernel, by decide, by decide, _, _, _, _, _, rfl⟩

theorem witness_TimedPhases :
    ((upWith .releasing .inForce .none).gate .g1).st = .releasing ∧
      ((upWith .releasing .inForce .none).gate .g1).phaseTimer = some 250 ∧
      ((upWith .reversing .inForce .none).gate .g1).st = .reversing ∧ (up.gate .g1).phaseTimer = none := by decide +kernel

theorem witness_TimedPhases_stop :
    ((upWith .stopping .inForce .none).gate .g1).st = .stopping ∧ (upWith .stopping .inForce .none).arbiter.waiters = [] ∧
      (upWith .stopping .inForce .none).quiet ∧ firstEligible (upWith .stopping .inForce .none) .g1 = none ∧
      (upWith .stopping .inForce .none).orderInForce .g1 = some (order 1 .inForce .none) ∧
      (upWith .stopping .held (HoldSet.none.put .all true)).orderInForce .g1 =
        some (order 1 .held { HoldSet.none with all := true }) ∧
      ((upWith .stopping .inForce .none).updGate .g1 fun q => { q with link := none }).orderInForce .g1 = none ∧
      badChannels (upWith .stopping .inForce .none) .g1 = none ∧
      badChannels (badLeft (upWith .stopping .inForce .none)) .g1 = some .left :=
  ⟨by decide +kernel, by decide +kernel, ⟨by decide +kernel, by decide +kernel⟩, by decide +kernel, by decide +kernel,
    by decide +kernel, by decide +kernel, by decide +kernel, by decide +kernel⟩

/-- G1 in a trim with its brakes lifted, with the slot and no order in force. -/
def trimming : State :=
  (up.updGate .g1 fun q =>
    { q with st := .trim, stepTimer := some 100, trimTimer := some 30000, hoists := ⟨.lifted, .lifted⟩ }).updArbiter fun a =>
      { a with holders := [{ gate := .g1, named := false }] }

theorem witness_Trim :
    (trimming.gate .g1).st = .trim ∧ (trimming.gate .g1).stepTimer = some 100 ∧ (trimming.gate .g1).link = none ∧
      (trimming.gate .g1).trimTimer = some 30000 ∧ trimming.arbiter.waiters = [] ∧ trimming.arbiter.fresh = [] ∧
      trimming.arbiter.due = false ∧ ((hoistsAt 5040 5000 trimming).hoistMeas .g1 .left).position = some 5040 ∧
      ((5040 : Int) - 5000).natAbs ≤ (trimming.tune .g1).skewTrip / 2 ∧
      (trimming.tune .g1).skewTrip / 2 < ((5041 : Int) - 5000).natAbs ∧ trimming.inhibited .g1 = false ∧
      (trimming.gate .g1).hoists.left.brake = true ∧ 0 < (trimming.tune .g1).trimSpeed := by decide +kernel

theorem witness_FaultsRaised :
    ((faulted .limit).gate .g1).st = .fault ∧
      ((faulted .limit).gate .g1).fault = some { kind := .limit, hoist := .both, second := none, further := 0 } ∧
      ((faulted .limit).updGate .g1 fun q => { q with
        fault := some { kind := .limit, hoist := .both, second := none, further := 15 } }).gates.g1.fault =
        some { kind := .limit, hoist := .both, second := none, further := 15 } ∧
      (State.reset.gate .g1).st = .disabled ∧ (up.gate .g1).link = none ∧
      moving.orderInForce .g1 = some (order 1 .inForce .none) ∧ (order 1 .inForce .none).setNo = none ∧
      moving.numbersDistinct ∧ up.numbersDistinct := by
  refine ⟨?_, ?_, ?_, ?_, ?_, ?_, ?_, moving_sound.2.1, up_sound.2.1⟩ <;> decide +kernel

/-- Set 9 with both members in force: G1 moving, and G2 in the state given. -/
def marching (st : GateState) : State :=
  ((inSet .inForce .inForce .immediate true).updGate .g1 fun q => { q with st := .travel, link := some 1 }).updGate .g2
    fun q => { q with st := st, link := some 2 }

/-- A member of a set that faults, with another member in force in each state it may be in; and the last member. -/
theorem witness_FaultsRaised_set :
    (marching .travel).setsSound ∧ (marching .travel).numbersDistinct ∧
      ∀ st ∈ [GateState.waitGrant, .releasing, .travel, .reversing, .stopping, .held],
        ((marching st).gate .g1).st = .travel ∧ (marching st).findSet 9 = some ⟨9, [1, 2], true, true, false⟩ ∧
        (marching st).orderInForce .g1 = some { order 1 .inForce .none with setNo := some 9 } ∧
        (marching st).orderInForce .g2 = some { order 2 .inForce .none with setNo := some 9 } ∧
        ((marching st).gate .g2).st = st :=
  ⟨inSet_sound _ _ _ _, by unfold State.numbersDistinct; decide +kernel, by decide +kernel⟩

/-- R51, R59: a STALL on G1 retires its order FAULTED and breaks its set, and GROUP stops G2. -/
theorem test_fault_breaks_the_set :
    let t := settle (raiseFault .g1 .stall .both (marching .travel))
    (t.findSet 9) = some ⟨9, [2], true, true, true⟩ ∧ (t.gate .g2).st = .stopping ∧
      (t.orderInForce .g2).map (fun o => o.holds.group) = some true := by decide +kernel

theorem witness_EstopLine :
    moving.lines.estop = false ∧ moving.slotsSound ∧ (moving.gate .g1).st ≠ .disabled ∧ (moving.gate .g2).st ≠ .fault ∧
      moving.queue .g2 = [] ∧ ((gateOne .disabled geometry).gate .g1).st = .disabled ∧
      ((faulted .limit).gate .g1).fault = some { kind := .limit, hoist := .both, second := none, further := 0 } :=
  ⟨by decide +kernel, moving_sound.2.2.2.2.1, by decide +kernel, by decide +kernel, by decide +kernel, by decide +kernel,
    by decide +kernel⟩

/-! ### Witnesses: isolations -/

theorem witness_PlaceIsolation :
    (isolated 23).takes .panel ∧ scopeOf (1#8).toNat = some (.gate .g1) ∧ scopeOf (7#8).toNat = some .site ∧
      (∀ e ∈ (isolated 23).isolations.entries, ¬ (e.code = 24 ∧ e.scope = .gate .g1)) ∧
      (isolated 23).isolations.entries.length < 24 ∧ (isolated 23).isolated .g1 = false ∧
      (isolated 23).orderInForce .g1 = some (order 1 .inForce .none) ∧ ((isolated 23).gate .g1).st = .travel :=
  ⟨by unfold State.takes; decide +kernel, rfl, rfl, by decide +kernel, by decide +kernel, by decide +kernel,
    by decide +kernel, by decide +kernel⟩

/-- `up` with G1 in a trim wait, and behind it an order READY or not. -/
def trimWait (st : OrderState) : State :=
  ((up.updQueue .g1 fun _ => [order 1 st .none]).updGate .g1 fun q => { q with st := .waitGrant }).updArbiter
    fun a => { a with waiters := [.g1] }

theorem trimWait_slots (st : OrderState) : (trimWait st).slotsSound ∧ trimming.slotsSound :=
  ⟨⟨fun g => by cases st <;> cases g <;> decide +kernel, by cases st <;> decide +kernel, by cases st <;> decide +kernel, rfl,
    rfl⟩, ⟨fun g => by cases g <;> decide +kernel, by decide +kernel, by decide +kernel, rfl, rfl⟩⟩

/-- A gate of the scope in TRIM, and one in a trim wait with and without an eligible order and with a bad channel. -/
theorem witness_PlaceIsolation_trims :
    (trimming.gate .g1).st = .trim ∧ trimming.isolated .g1 = false ∧ ((trimWait .queued).gate .g1).st = .waitGrant ∧
      ((trimWait .queued).gate .g1).link = none ∧ firstEligible (trimWait .queued) .g1 = none ∧
      badChannels (trimWait .queued) .g1 = none ∧ badChannels (badLeft (trimWait .queued)) .g1 = some .left ∧
      firstEligible (trimWait .ready) .g1 = some (order 1 .ready .none) ∧ boundsFault (trimWait .ready) .g1 = none ∧
      trimming.takes .panel ∧ (trimWait .ready).takes .panel ∧ trimming.isolations.entries = [] ∧
      (trimWait .ready).isolations.entries = [] := by
  unfold State.takes; decide +kernel

theorem isolated_slots : (isolated 23).slotsSound :=
  ⟨fun g => by cases g <;> decide +kernel, by decide +kernel, by decide +kernel, rfl, rfl⟩

theorem witness_IsolationRefusalsAndRenewal :
    (isolated 24).takes .panel ∧ ((0#8).toNat = 0 ∧ 7 < (8#8).toNat) ∧ scopeOf (2#8).toNat = some (.gate .g2) ∧
      ((isolated 24).isolations.entries.find? fun x => x.code == 2 && x.scope == .gate .g2).map (fun e => e.kept) =
        some true ∧
      ((isolated 24).isolations.entries.find? fun x => x.code == 1 && x.scope == .gate .g2).map (fun e => e.kept) =
        some false ∧
      (∀ e ∈ (isolated 24).isolations.entries, ¬ (e.code = 25 ∧ e.scope = .gate .g2)) ∧
      24 ≤ (isolated 24).isolations.entries.length :=
  ⟨by unfold State.takes; decide +kernel, by decide, rfl, by decide +kernel, by decide +kernel, by decide +kernel,
    by decide +kernel⟩

theorem witness_IsolationEnds :
    (isolated 1).takes .station ∧ scopeOf (2#8).toNat = some (.gate .g2) ∧ (isolated 1).quiet ∧
      (∃ e ∈ (isolated 1).isolations.entries, e.code = 1 ∧ e.scope = .gate .g2) ∧
      (∀ e ∈ (isolated 1).isolations.entries, ¬ (e.code = 2 ∧ e.scope = .gate .g2)) ∧
      local_.serves .panel .confirmIsolations ∧ local_.isolations.doubt = false ∧
      { local_ with isolations := { local_.isolations with doubt := true } }.serves .panel .confirmIsolations :=
  ⟨by unfold State.takes; decide +kernel, rfl, by unfold State.quiet; decide +kernel, by decide +kernel, by decide +kernel,
    by unfold State.serves State.takes; decide +kernel, rfl, by unfold State.serves State.takes; decide +kernel⟩

/-- The write asked for: none in flight or pending, and one in flight. -/
theorem witness_IsolationEnds_write :
    (isolated 1).nvs.flight = none ∧ (isolated 1).nvs.isolationJob = false ∧
      (writing (.settings settings)).nvs.flight = some (.settings settings) := by decide +kernel

/-! ### Witnesses: the clock, the supply and the lines -/

theorem witness_ClockEvaluation :
    moving.numbersDistinct ∧ moving.quiet ∧ moving.serves .station .setClock ∧ moving.clock.second ≠ none ∧
      moving.clock.value ≤ 4294967295 ∧
      (∀ x ∈ moving.liveOrders, (x.2.deadline = none ∧ x.2.start = .immediate)) ∧ moving.quotasHeld ∧
      (∀ g o, moving.orderInForce g = some o → o.state ≠ .queued) :=
  ⟨moving_sound.2.1, moving_sound.2.2.2.1, moving_serves _ rfl, by decide +kernel, by decide +kernel, by decide +kernel,
    moving_sound.1, fun g o h => by cases g <;> cases h; decide⟩

/-- `up` with G1 in a state, for an order with a deadline or none, and behind it an order that waits for the second 10001
with a deadline or none. -/
def timed (st : GateState) (os : OrderState) (d1 d2 : Option Nat) : State :=
  (upWith st os .none).updQueue .g1 fun _ =>
    [{ order 1 os .none with deadline := d1 }, { order 2 .queued .none with start := .atTime 10001, deadline := d2 }]

/-- A tick to 10001: an expired order in force, moving, waiting and stopping, with the last to expire QUEUED or in force; an
order reached on a gate busy with a leading order in force, and one in STOPPING. -/
theorem witness_ClockEvaluation_clauses :
    (timed .travel .inForce (some 10001) (some 10001)).numbersDistinct ∧
      (timed .travel .inForce (some 10001) (some 10001)).quiet ∧
      (∀ st ∈ [GateState.travel, .stopping],
        (timed st .inForce (some 10001) (some 10001)).orderInForce .g1 =
          some { order 1 .inForce .none with deadline := some 10001 } ∧
        (timed st .inForce (some 10001) none).orderInForce .g1 =
          some { order 1 .inForce .none with deadline := some 10001 }) ∧
      (∀ x ∈ (timed .travel .inForce none none).queue .g1, classRank x.cls ≤ classRank (order 1 .inForce .none).cls) ∧
      (timed .travel .inForce none none).orderInForce .g1 = some (order 1 .inForce .none) ∧
      ((timed .waitGrant .inForce (some 10001) (some 10001)).gate .g1).st = .waitGrant ∧
      (∀ x ∈ (timed .waitGrant .inForce (some 10001) (some 10001)).queue .g1, x.deadline = some 10001) ∧
      badChannels (timed .waitGrant .inForce (some 10001) (some 10001)) .g1 = none ∧
      (timed .travel .inForce (some 10001) (some 10001)).quotasHeld := by
  refine ⟨by unfold State.numbersDistinct; decide +kernel, by unfold State.quiet; decide +kernel, by decide +kernel,
    by decide +kernel, by decide +kernel, by decide +kernel, by decide +kernel, by decide +kernel, by decide +kernel,
    fun g => by cases g <;> decide +kernel⟩

/-- R66, R67, R70: SET CLOCK answers one lapsed, one overdue and none started; R68: an order reached stays READY behind. -/
theorem test_clock_evaluation :
    ((after (.setClock .station 1#8 [0, 0, 0x27, 0x11]) (timed .travel .inForce (some 10001) (some 10001))).link
      .station).request.map (fun r => r.progress) =
        some (.ready (responseFrame 7 (kindCode .setClock) 1#8 .done .none [0, 0, 0x27, 0x11, 1, 1, 0])) ∧
      ((after .tick (timed .travel .inForce none none)).queue .g1).map (fun o => (o.number, o.state)) =
        [(1, .inForce), (2, .ready)] := by decide +kernel

/-- `up` with the upstream level GOOD at 1000, and on G1 an order, armed or not, that waits for a level on that side. -/
def levelled (armed : Bool) (dir : Crossing) (l : Int) : State :=
  { up with measure := { up.measure with sides := ⟨⟨1000, .good⟩, ⟨0, .lost⟩⟩ } }.updQueue .g1 fun _ =>
    [{ order 1 .queued .none with start := .level dir .up l, armed := armed }]

theorem witness_LevelStarts :
    (levelled true .rise 1000).numbersDistinct ∧ ((levelled true .rise 1000).measure.sides.get .up).quality = .good ∧
      ((levelled true .rise 1000).measure.sides.get .down).quality = .lost ∧
      (levelled true .rise 1000).queue .g1 =
        [{ order 1 .queued .none with start := .level .rise .up 1000, armed := true }] ∧
      (levelled false .rise 1050).queue .g1 =
        [{ order 1 .queued .none with start := .level .rise .up 1050, armed := false }] ∧
      (1000 : Int) ≤ 1050 - (settings.site.hysteresis : Int) ∧ (950 : Int) + settings.site.hysteresis ≤ 1000 ∧
      (levelled true .rise 1000).orderInForce .g1 = none :=
  ⟨by unfold State.numbersDistinct; decide +kernel, by decide +kernel, by decide +kernel, by decide +kernel,
    by decide +kernel, by decide, by decide, by decide +kernel⟩

theorem witness_SupplyStates_park :
    (supplyIn .waking).serves .station .park ∧ (wake (supplyIn .waking)).supply.st = .waking ∧
      moving.serves .station .park ∧ moving.supply.st = .run ∧
      (moving.gate .g1).st ∉ [GateState.idle, .fault, .disabled] ∧ up.serves .station .park ∧ up.supply.st = .run ∧
      up.arbiter.holders = [] ∧ up.quiet ∧
      (∀ g, (up.gate g).st ∈ [GateState.idle, .fault, .disabled] ∧ ((up.gate g).st = .idle → firstEligible up g = none)) :=
  ⟨by unfold State.serves State.takes; decide +kernel, by decide +kernel, moving_serves _ rfl, by decide +kernel,
    by decide +kernel, serves_seat _ rfl, rfl, rfl, up_sound.2.2.2.1, fun g => by cases g <;> decide +kernel⟩

/-- G1 waiting for a slot in WAKING. -/
def wakingWait : State :=
  { upWith .waitGrant .inForce .none with
    supply := { up.supply with st := .waking, phase := some 1000 }
    arbiter := { (upWith .waitGrant .inForce .none).arbiter with limit := 0 } }

theorem witness_SupplyStates_timers :
    (supplyIn .parking).started = true ∧ (supplyIn .parking).supply.phase = some 5 ∧ wakingWait.started = true ∧
      wakingWait.supply.st = .waking ∧ wakingWait.supply.phase = some 1000 ∧ wakingWait.arbiter.limit = 0 ∧
      wakingWait.arbiter.holders = [] ∧ waitList wakingWait = [.g1] := by decide +kernel

theorem wakingWait_slots : wakingWait.slotsSound :=
  ⟨fun g => by cases g <;> decide +kernel, by decide +kernel, by decide +kernel, rfl, rfl⟩

theorem witness_MainsChange :
    up.lines.mainsOk = true ∧ moving.lines.mainsOk ≠ false ∧ moving.started = true ∧ moving.slotsSound ∧ moving.limitHeld :=
  ⟨rfl, by decide +kernel, by decide +kernel, moving_sound.2.2.2.2.1, moving_sound.2.2.2.2.2⟩

/-- Three holders, G1 in TRAVEL for a RELEASE order, G2 in TRIM, G3 ROUTINE in TRAVEL, with K_m 3 and K_b 1. -/
def threeHolders : State :=
  let s := (((moving.updQueue .g1 (List.map fun o => { o with cls := .release })).updGate .g2 fun q => { q with st := .trim, stepTimer := some 100, trimTimer := some 30000 }).updGate .g3
    fun q => { q with st := .travel, link := some 3, stepTimer := some 100 }).updQueue .g3 fun _ => [order 3 .inForce .none]
  { s with arbiter := { s.arbiter with holders := [⟨.g1, false⟩, ⟨.g2, false⟩, ⟨.g3, false⟩] }
           settings := { s.settings with site := { s.settings.site with limitMains := 3, limitBattery := 1 } } }

/-- On BATTERY, with a limit of 1 held by G1 and G2 waiting, K_m being 3. -/
def onBattery : State :=
  let s := (moving.updGate .g2 fun q => { q with st := .waitGrant, link := some 2 }).updQueue .g2
    fun _ => [order 2 .inForce .none]
  { s with arbiter := { s.arbiter with limit := 1, waiters := [.g2] }
           supply := { s.supply with source := .battery }, lines := { s.lines with mainsOk := false }
           settings := { s.settings with site := { s.settings.site with limitMains := 3, limitBattery := 1 } } }

theorem witness_MainsChange_limits :
    threeHolders.slotsSound ∧ threeHolders.limitHeld ∧ threeHolders.trimsBare ∧ onBattery.slotsSound ∧
      onBattery.limitHeld ∧ onBattery.trimsBare ∧ threeHolders.lines.mainsOk = true ∧ onBattery.lines.mainsOk = false :=
  ⟨⟨fun g => by cases g <;> decide +kernel, by decide +kernel, by decide +kernel, rfl, rfl⟩,
    by unfold State.limitHeld; decide +kernel, fun g => by cases g <;> decide +kernel,
    ⟨fun g => by cases g <;> decide +kernel, by decide +kernel, by decide +kernel, rfl, rfl⟩,
    by unfold State.limitHeld; decide +kernel, fun g => by cases g <;> decide +kernel, by decide +kernel, by decide +kernel⟩

/-- R165, R97, R142, R163: of three holders a fall to 1 names G3, lowest in rank, and of the two of rank RELEASE the later
granted, G2, whose trim faults; a rise grants the waiting gate. -/
theorem test_limit_moves :
    (let t := after (.mainsOkChange false) threeHolders
     [(t.gate .g1).st, (t.gate .g2).st, (t.gate .g3).st] = [.travel, .fault, .stopping] ∧
       (t.gate .g2).fault.map (fun r => r.kind) = some .trim) ∧
      ((after (.mainsOkChange true) onBattery).gate .g2).st = .releasing := by decide +kernel

theorem witness_LocalChange :
    up.lines.localKey = false ∧ moving.lines.localKey ≠ true ∧ moving.slotsSound ∧
      (∀ x ∈ moving.liveOrders, x.2.state = .ready → x.2.originator ≠ .panel) ∧
      moving.orderInForce .g1 = some (order 1 .inForce .none) ∧ (order 1 .inForce .none).originator ≠ .panel ∧
      local_.lines.localKey ≠ false ∧
      (heldFor .seat).orderInForce .g1 = some (order 1 .held { HoldSet.none with seat := true }) :=
  ⟨rfl, by decide +kernel, moving_sound.2.2.2.2.1, by decide +kernel, by decide +kernel, by decide, by decide,
    by decide +kernel⟩

/-! ### Witnesses: measurement -/

/-- `up` with the full scan at a channel. -/
def scanning (n : Nat) : State := { up with measure := { up.measure with scan := some { mode := .full, next := n } } }

theorem witness_RoundsHalfAway : (2 : Int) ≠ 0 ∧ 2 * ((5 : Int) - roundDiv 5 2 * 2).natAbs = (2 : Int).natAbs := by decide

theorem witness_ScansAndGauges :
    up.measure.scanTimer = some 10 ∧ up.measure.scan = none ∧ (scanning 1).measure.scan ≠ none ∧
      (scanning 25).measure.scan = some { mode := .full, next := 25 } ∧
      (settings.site.windows.get (.gauge .up .a)).low ≤ (700#12).toNat ∧
      (4060#12).toNat ≤ (settings.site.windows.get (.gauge .up .a)).high ∧
      (699#12).toNat < (settings.site.windows.get (.gauge .up .a)).low := by decide +kernel

/-- G1 in HELD for HEAD alone, under a raise guard, while the scan is at the first gauge. -/
def guarded : State :=
  ({ heldFor .head with measure := (scanning 25).measure }).updQueue .g1 (List.map fun o => { o with guard := some 400 })

theorem witness_ScansAndGauges_head :
    guarded.measure.scan = some { mode := .full, next := 25 } ∧ guarded.numbersDistinct ∧ guarded.quiet ∧
      (∀ x ∈ guarded.liveOrders, x.2.state ≠ .queued) ∧
      (guarded.orderInForce .g1).map (fun o => (o.holds, o.guard)) = some (HoldSet.none.put .head true, some 400) ∧
      (guarded.gate .g1).st = .held ∧ Gate.g1 ∉ guarded.arbiter.waiters :=
  ⟨by decide +kernel, by unfold State.numbersDistinct; decide +kernel, by unfold State.quiet; decide +kernel,
    by decide +kernel, by decide +kernel, by decide +kernel, by decide +kernel⟩

theorem witness_HoistConversions :
    (scanning 1).measure.scan = some { mode := .full, next := 1 } ∧ (scanning 1).quiet ∧
      (1 = 2 * gateNumber .g1 - 1) ∧ (12 = 2 * gateNumber .g6 - 0) ∧ (13 = 12 + (2 * gateNumber .g1 - 1)) ∧
      (24 = 12 + (2 * gateNumber .g6 - 0)) ∧ geometryValid ((scanning 1).geo .g1) = true ∧
      ((scanning 1).geo .g1).posCal.get .left = some ⟨819, 4095⟩ ∧
      ((scanning 1).hoistMeas .g1 .left).posStanding ≠ .invalid ∧ ((scanning 1).gate .g1).st = .idle ∧
      ((scanning 13).gate .g1).hoists.left.brake = false ∧ (trimming.gate .g1).hoists.left.brake = true ∧
      (trimming.gate .g1).hoists.left.dir ≠ .lower := by
  refine ⟨by decide +kernel, by unfold State.quiet; decide +kernel, ?_⟩; decide +kernel

/-- G1 in TRAVEL lowering its left hoist, its slack counter one short of the filter count, the scan at its load channel. -/
def lowering : State :=
  let s := { moving with measure := { moving.measure with scan := some { mode := .full, next := 13 } } }
  (s.updGate .g1 fun q => { q with hoists := ⟨⟨true, .lower, 300⟩, ⟨true, .lower, 300⟩⟩ }).updHoistMeas .g1 .left
    fun m => { m with slack := (s.tune .g1).filter - 1 }

/-- A load conversion with the lower line on, one short of the filter count, and codes on each side of the thresholds; and a
moving gate at an in-bounds code. -/
theorem witness_HoistConversions_watch :
    (lowering.gate .g1).hoists.left = { brake := true, dir := .lower, duty := 300 } ∧ lowering.quiet ∧
      (lowering.hoistMeas .g1 .left).slack + 1 = (lowering.tune .g1).filter ∧ (lowering.gate .g1).st = .travel ∧
      lowering.measure.scan = some { mode := .full, next := 13 } ∧
      (lowering.geo .g1).loadCal.get .left = none ∧ (lowering.geo .g1).loadPair .left = ⟨819, 4095⟩ ∧
      ({ lowering with measure := { lowering.measure with scan := some { mode := .full, next := 1 } } }.gate .g1).st ∈
        [GateState.releasing, .travel, .reversing, .stopping, .trim] ∧
      ¬ (roundDiv (((2000 : Int) - 819) * 8000) (4095 - 819) < -250 ∨
        8000 + 250 < roundDiv (((2000 : Int) - 819) * 8000) (4095 - 819)) := by
  refine ⟨by decide +kernel, by unfold State.quiet; decide +kernel, ?_⟩; decide +kernel

/-- R13: a load of 0 while the lower line is on faults SLACK at the filter count; an invalid code keeps the counter. -/
theorem test_slack :
    ((after (.conversionComplete 819#12) lowering).gate .g1).fault.map (fun r => (r.kind, r.hoist)) =
      some (.slack, .left) ∧
      ((after (.conversionComplete 0#12) lowering).hoistMeas .g1 .left).slack + 1 = (lowering.tune .g1).filter := by
  decide +kernel

/-! ### Witnesses: reset and the invariants -/

/-- A reset by the pin into a world whose areas stand as stored. -/
def world : ResetWorld :=
  { causes := ⟨false, false, true⟩, straps := ⟨7#5, 3#2⟩, codes := .const 2000#12, settingsArea := .asStored,
    isolationArea := .asStored }

theorem witness_DeviceReset :
    (world.causes.power = true ∨ world.causes.brownout = true ∨ world.causes.pin = true) ∧
      settingsOk settings = true ∧ settingsOk { settings with site := { settings.site with limitMains := 7 } } = false ∧
      State.reset.nvs.isolationArea = none := by decide +kernel

/-- The stored areas of a device whose geometry is valid: the first full scan gives a position, in the window and out of it. -/
def stored : State := { State.reset with nvs := { State.reset.nvs with settingsArea := some settings } }

theorem witness_DeviceReset_scan :
    settingsOk settings = true ∧ geometryValid geometry = true ∧ geometry.posCal.get .left = some ⟨819, 4095⟩ ∧
      (settings.site.windows.get (.position .g1 .left)).low ≤ (2000#12).toNat ∧
      (2000#12).toNat ≤ (settings.site.windows.get (.position .g1 .left)).high ∧
      (0#12).toNat < (settings.site.windows.get (.position .g1 .left)).low ∧
      ((after (.deviceReset world) stored).hoistMeas .g1 .left).posValid = true ∧
      ((after (.deviceReset { world with codes := .const 0#12 }) stored).hoistMeas .g1 .left).posValid = false := by
  decide +kernel

theorem witness_GatesAfterReset :
    (windowOk (settings.site.windows.get (.position .g1 .left)) = true) ∧
      (699 < (settings.site.windows.get (.position .g1 .left)).low) ∧
      ((settings.site.windows.get (.position .g1 .left)).high < 4061) ∧ geometryValid geometry = true ∧
      geometryValid defaultGeometry = false := by decide +kernel

theorem witness_HoistsStaySafe :
    (moving.withPending [.travelStep .g1]).hoistsSafe ∧ (moving.withPending [.travelStep .g1]).settingsSound ∧
      ∃ t, step (moving.withPending [.travelStep .g1]) = .next t :=
  ⟨fun g => ⟨by cases g <;> decide +kernel, fun d => by
    cases g <;> cases d <;> (unfold Hoist.sound Hoist.allowed; decide +kernel)⟩, by unfold State.settingsSound; decide +kernel,
    ⟨_, rfl⟩⟩

theorem witness_IsolationsStaySound :
    (isolated 24).isolationsSound ∧ ∃ t, step ((isolated 24).withPending [.tick]) = .next t :=
  ⟨⟨by unfold entriesSound; decide +kernel, (fun _ h => by cases h), (fun _ h => by cases h)⟩, ⟨_, rfl⟩⟩

theorem witness_OrdersStaySound :
    (∀ g, ∀ o ∈ (heldFor .all).queue g, o.holdsAgree) ∧ moving.targetsSound ∧
      ∃ t, step (moving.withPending [.tick]) = .next t :=
  ⟨fun g => by cases g <;> (unfold Order.holdsAgree; decide +kernel), fun g => by cases g <;> decide +kernel, ⟨_, rfl⟩⟩

theorem witness_QueuesStayRanked :
    moving.quotasHeld ∧ moving.numbersDistinct ∧ moving.queuesRanked ∧
      ∃ t, step (moving.withPending [.placeOrder .station 1#8 (placement 1 1 0 1 [0, 0, 0x27, 0x11])]) = .next t :=
  ⟨moving_sound.1, moving_sound.2.1, moving_sound.2.2.1, ⟨_, rfl⟩⟩

theorem witness_SetsAndLinksStaySound :
    (inSet .ready .queued (.atTime 10001) false).setsSound ∧ (inSet .ready .queued (.atTime 10001) false).linksSound ∧
      (inSet .ready .queued (.atTime 10001) false).quotasHeld ∧
      ∃ t, step ((inSet .ready .queued (.atTime 10001) false).withPending [.tick]) = .next t :=
  ⟨inSet_sound _ _ _ _, witness_PlaceSetAllOrNone_start.2.2.1,
    ⟨by decide +kernel, fun g => by cases g <;> decide +kernel⟩, ⟨_, rfl⟩⟩

theorem witness_SlotsStaySound :
    moving.slotsSound ∧ moving.limitHeld ∧ ∃ t, step (moving.withPending [.mainsOkChange false]) = .next t :=
  ⟨moving_sound.2.2.2.2.1, moving_sound.2.2.2.2.2, ⟨_, rfl⟩⟩

theorem witness_LinesStayFollowed :
    up.linesFollowed ∧ up.slotsSound ∧ up.disabledSound ∧ ∃ t, step (up.withPending [.mainsOkChange false]) = .next t :=
  ⟨by unfold State.linesFollowed; decide +kernel, up_sound.2.2.2.2.1, fun _ g => by cases g <;> decide +kernel, ⟨_, rfl⟩⟩

end Sys2Proof.Tests
end

section
/-! PROOFS. Statements O1 and O48: one step of the block, and the rounding of the scalings. -/

namespace Sys2Proof.Machine

/-! ### The queue of commands -/

theorem step_of_pending {s : State} {c : Instr} {rest : List Instr} (h : s.pending = c :: rest) :
    step s = exec c (s.withPending rest) := by
  simp only [step, h]

theorem step_of_idle {s : State} (h : s.pending = []) : step s = .next s.elapse := by
  simp only [step, h]

theorem State.elapse_gate (s : State) (g : Gate) : s.elapse.gate g = (s.gate g).elapse := by cases g <;> rfl

theorem State.elapse_link (s : State) (q : Port) : s.elapse.link q = (s.link q).elapse := by cases q <;> rfl

/-- Settles O1: a step reads the queue, and the idle step is `State.elapse`, part by part. -/
theorem stepTakesFrontCommand : Obligations.StepTakesFrontCommand := by
  refine ⟨fun c rest s h => step_of_pending h, fun s h => ?_⟩
  intro less
  have hless : less = Timer.elapse := funext fun x => by cases x <;> rfl
  clear_value less
  subst hless
  exact ⟨s.elapse, step_of_idle h, rfl, rfl, s.elapse_gate, rfl, rfl, s.elapse_link, rfl⟩

/-! ### The rounding of the scalings (01, Scaling) -/

/-- The magnitude of a rounded quotient: the quotient of the magnitudes rounded half up. -/
def roundedMagnitude (n d : Nat) : Nat := (2 * n + d) / (2 * d)

theorem roundDiv_of_neg {n d : Int} (h : n * d < 0) :
    roundDiv n d = -(roundedMagnitude n.natAbs d.natAbs : Int) := if_pos h

theorem roundDiv_of_nonneg {n d : Int} (h : 0 ≤ n * d) :
    roundDiv n d = (roundedMagnitude n.natAbs d.natAbs : Int) := if_neg (Int.not_lt.2 h)

theorem roundedMagnitude_near (n : Nat) {d : Nat} (hd : 0 < d) :
    2 * (roundedMagnitude n d * d) ≤ 2 * n + d ∧ 2 * n < 2 * (roundedMagnitude n d * d) + d := by
  have hlow : roundedMagnitude n d * (2 * d) ≤ 2 * n + d := Nat.div_mul_le_self _ _
  have hhigh : 2 * n + d < roundedMagnitude n d * (2 * d) + 2 * d := Nat.lt_div_mul_add (by omega)
  rw [Nat.mul_left_comm] at hlow hhigh
  omega

theorem roundDiv_natAbs (n d : Int) : (roundDiv n d).natAbs = roundedMagnitude n.natAbs d.natAbs := by
  rcases Int.lt_or_le (n * d) 0 with h | h
  · rw [roundDiv_of_neg h, Int.natAbs_neg, Int.natAbs_natCast]
  · rw [roundDiv_of_nonneg h, Int.natAbs_natCast]

/-- A rounded quotient times its divisor has the sign of the dividend. -/
theorem roundDiv_mul_sign {n d : Int} (hd : d ≠ 0) :
    (0 < n → 0 ≤ roundDiv n d * d) ∧ (n < 0 → roundDiv n d * d ≤ 0) := by
  have hq : (0 : Int) ≤ roundedMagnitude n.natAbs d.natAbs := Int.natCast_nonneg _
  refine ⟨fun hn => ?_, fun hn => ?_⟩ <;> rcases Int.lt_or_gt_of_ne hd with hd | hd
  · rw [roundDiv_of_neg (Int.mul_neg_of_pos_of_neg hn hd)]
    exact Int.mul_nonneg_of_nonpos_of_nonpos (Int.neg_nonpos_of_nonneg hq) (Int.le_of_lt hd)
  · rw [roundDiv_of_nonneg (Int.le_of_lt (Int.mul_pos hn hd))]
    exact Int.mul_nonneg hq (Int.le_of_lt hd)
  · rw [roundDiv_of_nonneg (Int.le_of_lt (Int.mul_pos_of_neg_of_neg hn hd))]
    exact Int.mul_nonpos_of_nonneg_of_nonpos hq (Int.le_of_lt hd)
  · rw [roundDiv_of_neg (Int.mul_neg_of_neg_of_pos hn hd)]
    exact Int.mul_nonpos_of_nonpos_of_nonneg (Int.neg_nonpos_of_nonneg hq) (Int.le_of_lt hd)

/-- Settles O48: the rounded quotient has the sign of the exact one (`roundDiv_mul_sign`), so its distance is that of the
magnitudes (`roundedMagnitude_near`). -/
theorem roundsHalfAway : Obligations.RoundsHalfAway := by
  intro n d hd
  have hmag : (roundDiv n d * d).natAbs = roundedMagnitude n.natAbs d.natAbs * d.natAbs := by
    rw [Int.natAbs_mul, roundDiv_natAbs]
  have hnear := roundedMagnitude_near n.natAbs (Int.natAbs_pos.2 hd)
  have hsign := roundDiv_mul_sign (n := n) hd
  rw [← hmag] at hnear
  generalize roundDiv n d * d = x at *
  omega

end Sys2Proof.Machine
end

section
/-! PROOFS. What the shared operations of an event leave of a gate that they do not work on: `LeavesGate g s t`, said once for
each operation of Ops and Sequencer, up to the store's tests and the close of the event. -/

namespace Sys2Proof.Machine

/-! ### What an operation on one gate leaves of another -/

/-- Everything that belongs to a gate is as it was: its sequencer, its queue, its hoists' readings and its place on the wait
list. -/
structure LeavesGate (g : Gate) (s t : State) : Prop where
  gate : t.gate g = s.gate g
  queue : t.queue g = s.queue g
  meas : ∀ d, t.hoistMeas g d = s.hoistMeas g d
  waits : g ∈ t.arbiter.waiters ↔ g ∈ s.arbiter.waiters
  joins : g ∈ t.arbiter.fresh ↔ g ∈ s.arbiter.fresh

theorem State.orderInForce_congr {g : Gate} {s t : State} (hl : (t.gate g).link = (s.gate g).link)
    (hq : t.queue g = s.queue g) : t.orderInForce g = s.orderInForce g := by
  simp only [State.orderInForce, State.orderIn, hl, hq]

namespace LeavesGate

variable {g : Gate} {s t u : State}

theorem refl (g : Gate) (s : State) : LeavesGate g s s := ⟨rfl, rfl, fun _ => rfl, .rfl, .rfl⟩

theorem trans (h : LeavesGate g s t) (k : LeavesGate g t u) : LeavesGate g s u where
  gate := k.gate.trans h.gate
  queue := k.queue.trans h.queue
  meas d := (k.meas d).trans (h.meas d)
  waits := k.waits.trans h.waits
  joins := k.joins.trans h.joins

theorem orderInForce_eq (h : LeavesGate g s t) : t.orderInForce g = s.orderInForce g :=
  State.orderInForce_congr (by rw [h.gate]) h.queue

theorem orderInForce_none (h : LeavesGate g s t) (hs : s.orderInForce g = none) : t.orderInForce g = none :=
  h.orderInForce_eq.trans hs

/-- A fold leaves a gate alone where each of its steps does, in every state that has left it alone so far. -/
theorem foldl {f : State → Gate → State} {l : List Gate} {s : State}
    (hf : ∀ x, LeavesGate g s x → ∀ h ∈ l, LeavesGate g x (f x h)) : LeavesGate g s (l.foldl f s) := by
  induction l generalizing s with
  | nil => exact refl g s
  | cons h l ih =>
    have h1 := hf s (refl g s) h (List.mem_cons_self ..)
    exact h1.trans (ih fun x hx k hk => hf x (h1.trans hx) k (List.mem_cons_of_mem _ hk))

end LeavesGate

section
variable {g h : Gate} (hne : g ≠ h) (s : State)
include hne

/-! The updates of another gate. -/

theorem updGate_leaves (f : GateSeq → GateSeq) : LeavesGate g s (s.updGate h f) :=
  ⟨by rw [State.updGate_gate, if_neg hne], rfl, fun _ => rfl, .rfl, .rfl⟩

theorem updQueue_leaves (f : List Order → List Order) : LeavesGate g s (s.updQueue h f) :=
  ⟨rfl, by rw [State.updQueue_queue, if_neg hne], fun _ => rfl, .rfl, .rfl⟩

theorem updOrder_leaves (n : Nat) (f : Order → Order) : LeavesGate g s (s.updOrder h n f) :=
  updQueue_leaves hne s _

theorem updHoistMeas_leaves (d : Side) (f : HoistMeas → HoistMeas) : LeavesGate g s (s.updHoistMeas h d f) :=
  ⟨rfl, rfl, fun e => by rw [State.updHoistMeas_hoistMeas, if_neg fun k => hne k.1], .rfl, .rfl⟩

theorem joinWait_leaves : LeavesGate g s (joinWait h s) :=
  ⟨rfl, rfl, fun _ => rfl, .rfl, by simp [joinWait, hne]⟩

theorem leaveWait_leaves : LeavesGate g s (leaveWait h s) :=
  ⟨rfl, rfl, fun _ => rfl, by simp [leaveWait, hne], by simp [leaveWait, hne]⟩

end

/-! The updates that belong to no gate. -/

theorem updSets_leaves (g : Gate) (f : List SetRec → List SetRec) (s : State) : LeavesGate g s (s.updSets f) :=
  ⟨rfl, rfl, fun _ => rfl, .rfl, .rfl⟩

theorem raiseNotice_leaves (g : Gate) (f : NoticeSet → NoticeSet) (s : State) : LeavesGate g s (raiseNotice f s) :=
  ⟨rfl, rfl, fun _ => rfl, .rfl, .rfl⟩

theorem noticeFault_leaves (g h : Gate) (s : State) : LeavesGate g s (noticeFault h s) := raiseNotice_leaves g _ s

theorem noticeOutcome_leaves (g h : Gate) (s : State) : LeavesGate g s (noticeOutcome h s) := raiseNotice_leaves g _ s

theorem callGrantTest_leaves (g : Gate) (s : State) : LeavesGate g s (callGrantTest s) :=
  ⟨rfl, rfl, fun _ => rfl, .rfl, .rfl⟩

theorem releaseSlot_leaves (g h : Gate) (s : State) : LeavesGate g s (releaseSlot h s) := by
  unfold releaseSlot
  split
  · exact ⟨rfl, rfl, fun _ => rfl, .rfl, .rfl⟩
  · exact .refl g s

/-! The operations of Ops and Sequencer on another gate, in their order. -/

section
variable {g h : Gate} (hne : g ≠ h)
include hne

theorem brakesOff_leaves (s : State) : LeavesGate g s (brakesOff h s) :=
  ((updGate_leaves hne s _).trans (updHoistMeas_leaves hne _ .left _)).trans (updHoistMeas_leaves hne _ .right _)

theorem brakesOn_leaves (s : State) : LeavesGate g s (brakesOn h s) := by
  unfold brakesOn
  split
  · exact brakesOff_leaves hne s
  · exact updGate_leaves hne s _

theorem enterAtRest_leaves (st : GateState) (phase : Timer) (s : State) : LeavesGate g s (enterAtRest st phase h s) :=
  (updGate_leaves hne s _).trans (brakesOff_leaves hne _)

theorem enterWaitGrant_leaves (s : State) : LeavesGate g s (enterWaitGrant h s) :=
  (enterAtRest_leaves hne _ _ s).trans (joinWait_leaves hne _)

theorem gateHeld_leaves (s : State) : LeavesGate g s (gateHeld h s) := by
  unfold gateHeld
  split
  · exact (leaveWait_leaves hne s).trans (enterAtRest_leaves hne _ _ _)
  · exact enterAtRest_leaves hne _ _ s
  · exact enterAtRest_leaves hne _ _ s
  · exact enterAtRest_leaves hne _ _ s
  · exact .refl g s

theorem gateFreed_leaves (s : State) : LeavesGate g s (gateFreed h s) := by
  unfold gateFreed
  split
  · exact enterWaitGrant_leaves hne s
  · exact .refl g s

theorem addHold_leaves (r : HoldReason) (s : State) : LeavesGate g s (addHold h r s) := by
  unfold addHold
  split
  · exact .refl g s
  · split
    · exact .refl g s
    · exact (updOrder_leaves hne s _ _).trans (gateHeld_leaves hne _)

theorem removeHold_leaves (r : HoldReason) (s : State) : LeavesGate g s (removeHold h r s) := by
  have k := fun n f => updOrder_leaves hne s n f
  unfold removeHold
  split
  · exact .refl g s
  · split
    · dsimp only
      split
      · exact (k _ _).trans (gateFreed_leaves hne _)
      · exact k _ _
    · exact .refl g s

theorem enterFault_leaves (k : FaultKind) (d : Designation) (s : State) : LeavesGate g s (enterFault h k d s) :=
  ((enterAtRest_leaves hne _ _ s).trans (updGate_leaves hne _ _)).trans (noticeFault_leaves g h _)

theorem enterIdle_leaves (s : State) : LeavesGate g s (enterIdle h s).1 := by
  have k := (enterAtRest_leaves hne .idle none s).trans
    (updGate_leaves hne _ fun q => { q with link := none, vPrev := 0, settle := 0, window := none })
  unfold enterIdle
  dsimp only
  split
  · exact k.trans (enterFault_leaves hne _ _ _)
  · exact k

theorem loseOrder_leaves (s : State) : LeavesGate g s (loseOrder h s).1 := by
  have k := updGate_leaves hne s fun q => { q with link := none }
  unfold loseOrder
  dsimp only
  split
  · exact (k.trans (leaveWait_leaves hne _)).trans (enterIdle_leaves hne _)
  · exact k.trans (enterAtRest_leaves hne _ _ _)
  · exact k.trans (enterAtRest_leaves hne _ _ _)
  · exact k.trans (enterAtRest_leaves hne _ _ _)
  · exact k.trans (enterIdle_leaves hne _)
  · exact k

theorem recordOutcome_leaves (o : Order) (oc : Outcome) (s : State) : LeavesGate g s (recordOutcome h o oc s) :=
  (updGate_leaves hne s _).trans (noticeOutcome_leaves g h _)

theorem linkOrder_leaves (n : Nat) (s : State) : LeavesGate g s (linkOrder h n s) := by
  unfold linkOrder
  exact (updOrder_leaves hne s _ _).trans (updGate_leaves hne _ _)

theorem grant_leaves (s : State) : LeavesGate g s (grant h s) := by
  have k : LeavesGate g s ((leaveWait h s).updArbiter fun a =>
      { a with holders := a.holders ++ [{ gate := h, named := false }] }) :=
    (leaveWait_leaves hne s).trans ⟨rfl, rfl, fun _ => rfl, .rfl, .rfl⟩
  unfold grant
  dsimp only
  split
  · exact k.trans ((updGate_leaves hne _ _).trans (brakesOn_leaves hne _))
  · exact k.trans ((updGate_leaves hne _ _).trans (brakesOn_leaves hne _))

end

/-! ### The set table -/

theorem testAllReady_leaves (g : Gate) (k : Nat) (s : State) : LeavesGate g s (testAllReady k s).1 := by
  unfold testAllReady
  split
  · exact .refl g s
  · split
    · exact updSets_leaves g _ s
    · exact .refl g s

theorem leaveOwnSet_leaves (g : Gate) (n : Nat) (oc : Outcome) (set : Option Nat) (s : State) :
    LeavesGate g s (leaveOwnSet n oc set s).1 := by
  cases set with
  | none => exact .refl g s
  | some k => exact ((updSets_leaves g _ s).trans (updSets_leaves g _ _)).trans (testAllReady_leaves g k _)

/-! ### A gate with no order in force

A retirement FAULTED puts GROUP on orders in force of other gates (R59), so that what follows leaves a gate alone where it has
no order in force. -/

section
variable {g : Gate} {s : State} (hg : s.orderInForce g = none)
include hg

theorem groupHolds_leaves (k : Nat) : LeavesGate g s (groupHolds k s) := by
  refine .foldl fun x hx h _ => ?_
  by_cases hh : g = h
  · subst hh
    simp only [hx.orderInForce_none hg]
    exact .refl g x
  · split
    · split
      · exact addHold_leaves hh _ x
      · exact .refl g x
    · exact .refl g x

theorem groupOwnSet_leaves (oc : Outcome) (set : Option Nat) : LeavesGate g s (groupOwnSet oc set s) := by
  cases set with
  | none => exact .refl g s
  | some k =>
    unfold groupOwnSet
    dsimp only
    split
    · exact groupHolds_leaves hg k
    · exact .refl g s

variable {h : Gate} (hne : g ≠ h)
include hne

theorem retire_leaves (n : Nat) (oc : Outcome) : LeavesGate g s (retire h n oc s).1 := by
  unfold retire
  split
  · exact .refl g s
  · rename_i o _
    have k := ((updQueue_leaves hne s (List.filter fun x => x.number != n)).trans
      (leaveOwnSet_leaves g n oc o.setNo _)).trans (recordOutcome_leaves hne o oc _)
    dsimp only
    split
    · have k1 := k.trans (loseOrder_leaves hne _)
      exact k1.trans (groupOwnSet_leaves (k1.orderInForce_none hg) _ _)
    · exact k.trans (groupOwnSet_leaves (k.orderInForce_none hg) _ _)

theorem faultStop_leaves (k : FaultKind) (d : Designation) : LeavesGate g s (faultStop h k d s).1 := by
  have h1 := enterFault_leaves hne k d s
  unfold faultStop
  dsimp only
  split
  · exact (h1.trans (retire_leaves (h1.orderInForce_none hg) hne _ _)).trans
      ((releaseSlot_leaves g h _).trans (leaveWait_leaves hne _))
  · exact h1.trans ((releaseSlot_leaves g h _).trans (leaveWait_leaves hne _))

theorem takeForce_leaves (o : Order) : LeavesGate g s (takeForce h o s).1 := by
  have h1 := linkOrder_leaves hne o.number s
  have hg1 := h1.orderInForce_none hg
  unfold takeForce
  dsimp only
  split
  · exact h1.trans (faultStop_leaves hg1 hne _ _)
  · split
    · split
      · exact h1.trans (retire_leaves hg1 hne _ _)
      · exact h1.trans (enterWaitGrant_leaves hne _)
    · exact h1.trans (enterAtRest_leaves hne _ _ _)

omit hg in
theorem backToReady_leaves (o : Order) : LeavesGate g s (backToReady h o s) := by
  have h1 := updOrder_leaves hne s o.number fun x => { x with state := .ready, holds := .none }
  unfold backToReady
  dsimp only
  split
  · exact h1
  · exact h1.trans (testAllReady_leaves g _ _)

theorem preempt_leaves (o cur : Order) : LeavesGate g s (preempt h o cur s).1 := by
  have h1 := ((backToReady_leaves hne cur (s := s)).trans (linkOrder_leaves hne o.number _)).trans
    (updGate_leaves hne _ fun q => { q with settle := 0 })
  have hg1 := h1.orderInForce_none hg
  unfold preempt
  dsimp only
  split
  · exact h1.trans (faultStop_leaves hg1 hne _ _)
  · split
    · split
      · split
        · exact h1.trans (retire_leaves hg1 hne _ _)
        · exact h1.trans (callGrantTest_leaves g _)
      · split
        · exact h1.trans (retire_leaves hg1 hne _ _)
        · exact h1.trans (enterWaitGrant_leaves hne _)
      · exact h1
    · split
      · exact (h1.trans (leaveWait_leaves hne _)).trans (enterAtRest_leaves hne _ _ _)
      · exact h1.trans (enterAtRest_leaves hne _ _ _)
      · exact h1.trans (enterAtRest_leaves hne _ _ _)
      · exact h1.trans (enterAtRest_leaves hne _ _ _)
      · exact h1

theorem storeTest_leaves : LeavesGate g s (storeTest h s).1 := by
  unfold storeTest
  split
  · exact .refl g s
  · split
    · exact takeForce_leaves hg hne _
    · exact .refl g s
    · exact .refl g s
    · exact .refl g s
    · exact .refl g s
    · split
      · exact .refl g s
      · split
        · exact preempt_leaves hg hne _ _
        · exact .refl g s

end

/-! ### The tests and the close of the event -/

/-- The store's test of a gate in FAULT does nothing (R46, R47). -/
theorem storeTest_of_fault {g : Gate} {s : State} (h : (s.gate g).st = .fault) : storeTest g s = (s, []) := by
  unfold storeTest
  split
  · rfl
  · rw [h]

theorem storeTests_leaves_faulted {g : Gate} {s : State} (hst : (s.gate g).st = .fault) (hg : s.orderInForce g = none)
    (gs : List Gate) : LeavesGate g s (storeTests gs s) := by
  unfold storeTests
  generalize testFuel s gs = fuel
  induction fuel generalizing gs s with
  | zero => exact .refl g s
  | succ n ih =>
    cases gs with
    | nil => exact .refl g s
    | cons h rest =>
      have h1 : LeavesGate g s (storeTest h s).1 := by
        by_cases hh : g = h
        · subst hh
          rw [storeTest_of_fault hst]
          exact .refl g s
        · exact storeTest_leaves hg hh
      exact h1.trans (ih (h1.gate ▸ hst) (h1.orderInForce_none hg) _)

@[simp] theorem storeTests_nil (s : State) : storeTests [] s = s := by
  unfold storeTests
  cases testFuel s [] <;> rfl

@[simp] theorem settle_nil (s : State) : settle (s, []) = s := storeTests_nil s

theorem mem_waitList {s : State} {g : Gate} (h : g ∈ waitList s) : g ∈ s.arbiter.waiters := by
  simp only [waitList, List.mem_append, List.mem_filter] at h
  rcases h with ⟨hw, _⟩ | ⟨hw, _⟩ | ⟨hw, _⟩ <;> exact hw

theorem grantAll_leaves {g : Gate} {s : State} (hg : g ∉ s.arbiter.waiters) (fuel : Nat) :
    LeavesGate g s (grantAll fuel s) := by
  induction fuel generalizing s with
  | zero => exact .refl g s
  | succ n ih =>
    unfold grantAll
    split
    · split
      · exact .refl g s
      · rename_i h rest e
        have hne : g ≠ h := fun k => hg (mem_waitList (by rw [e, k]; exact List.mem_cons_self ..))
        have h1 := grant_leaves hne s
        exact h1.trans (ih fun k => hg (h1.waits.1 k))
    · exact .refl g s

/-- The arbiter as the close of an event makes its grants: the gates that joined stand behind the others (R162). -/
def Arbiter.gather (a : Arbiter) : Arbiter :=
  { a with waiters := a.waiters ++ Gate.all.filter (fun g => a.fresh.contains g), fresh := [], due := false }

theorem Arbiter.gather_quiet {a : Arbiter} (hf : a.fresh = []) (hd : a.due = false) : a.gather = a := by
  cases a
  subst hf hd
  simp [gather]

/-- The state in which the close of an event makes its grants. -/
def gathered (s : State) : State := s.updArbiter Arbiter.gather

theorem closeEvent_eq (s : State) :
    closeEvent s = if s.arbiter.due then grantAll (gathered s).arbiter.waiters.length (gathered s) else gathered s := rfl

theorem closeEvent_leaves {g : Gate} {s : State} (hw : g ∉ s.arbiter.waiters) (hf : g ∉ s.arbiter.fresh) :
    LeavesGate g s (closeEvent s) := by
  have hw1 : g ∉ (gathered s).arbiter.waiters := by simp [gathered, Arbiter.gather, hw, hf]
  have hf1 : g ∉ (gathered s).arbiter.fresh := by simp [gathered, Arbiter.gather]
  have h1 : LeavesGate g s (gathered s) := ⟨rfl, rfl, fun _ => rfl, iff_of_false hw1 hw, iff_of_false hf1 hf⟩
  rw [closeEvent_eq]
  split
  · exact h1.trans (grantAll_leaves hw1 _)
  · exact h1

/-- An event that neither lets a gate join the wait list nor calls for the grant test closes with nothing done. -/
theorem closeEvent_quiet {s : State} (h : s.quiet) : closeEvent s = s := by
  obtain ⟨hf, hd⟩ := h
  rw [closeEvent_eq, hd]
  change { s with arbiter := s.arbiter.gather } = s
  rw [Arbiter.gather_quiet hf hd]

end Sys2Proof.Machine
end

section
/-! PROOFS. What a cascade leaves of the readings, and the fault stop of a gate as it stands at the end of its event
(`faultStop_standsFaulted`, `raiseFault_settled`). -/

namespace Sys2Proof.Machine

/-! ### What a cascade leaves of the Measurement Unit -/

namespace Cascade

variable {s t : State}

theorem scan_eq (h : Cascade s t) : t.measure.scan = s.measure.scan := congrArg (fun x => x.measure.scan) h.frame
theorem gauges_eq (h : Cascade s t) : t.measure.gauges = s.measure.gauges :=
  congrArg (fun x => x.measure.gauges) h.frame
theorem sides_eq (h : Cascade s t) : t.measure.sides = s.measure.sides := congrArg (fun x => x.measure.sides) h.frame
theorem head_eq (h : Cascade s t) : t.measure.head = s.measure.head := congrArg (fun x => x.measure.head) h.frame
theorem headDisputed_eq (h : Cascade s t) : t.measure.headDisputed = s.measure.headDisputed :=
  congrArg (fun x => x.measure.headDisputed) h.frame

end Cascade

theorem State.fixed_hoistMeas (s : State) (g : Gate) (d : Side) :
    s.fixed.hoistMeas g d = clearCounters (s.hoistMeas g d) := by cases g <;> cases d <;> rfl

/-- Every hoist's readings are as they were, its load-watch counters apart, and so is the scan. -/
structure ReadingsKept (s t : State) : Prop where
  hoists : ∀ g d, clearCounters (t.hoistMeas g d) = clearCounters (s.hoistMeas g d)
  scan : t.measure.scan = s.measure.scan

theorem ReadingsKept.trans {s t u : State} (h : ReadingsKept s t) (k : ReadingsKept t u) : ReadingsKept s u :=
  ⟨fun g d => (k.hoists g d).trans (h.hoists g d), k.scan.trans h.scan⟩

theorem Cascade.readingsKept {s t : State} (h : Cascade s t) : ReadingsKept s t :=
  ⟨fun g d => by simpa only [State.fixed_hoistMeas] using congrArg (fun x => x.hoistMeas g d) h.frame, h.scan_eq⟩

theorem updHoistMeas_readingsKept (s : State) (g : Gate) (d : Side) {f : HoistMeas → HoistMeas}
    (hf : ∀ m, clearCounters (f m) = clearCounters m) : ReadingsKept s (s.updHoistMeas g d f) := by
  refine ⟨fun h e => ?_, rfl⟩
  rw [State.updHoistMeas_hoistMeas]
  split
  · rename_i k
    rw [k.1, k.2, hf]
  · rfl

@[simp] theorem State.updHoistMeas_hoistMeas_self (s : State) (g : Gate) (d : Side) (f : HoistMeas → HoistMeas) :
    (s.updHoistMeas g d f).hoistMeas g d = f (s.hoistMeas g d) := by
  rw [State.updHoistMeas_hoistMeas, if_pos ⟨rfl, rfl⟩]

/-! ### A gate at rest -/

@[simp] theorem brakesOff_gate_self (g : Gate) (s : State) :
    (brakesOff g s).gate g = { s.gate g with hoists := ⟨.off, .off⟩ } := by
  simp only [brakesOff, State.updHoistMeas_gate_eq, State.updGate_gate_self]

@[simp] theorem brakesOff_hoistMeas_self (g : Gate) (d : Side) (s : State) :
    (brakesOff g s).hoistMeas g d = clearCounters (s.hoistMeas g d) := by
  cases d <;> simp [brakesOff, State.updHoistMeas_hoistMeas]

@[simp] theorem enterAtRest_gate_self (st : GateState) (phase : Timer) (g : Gate) (s : State) :
    (enterAtRest st phase g s).gate g = { s.gate g with
      st := st, stepTimer := none, phaseTimer := phase, trimTimer := none, hoists := ⟨.off, .off⟩ } := by
  simp only [enterAtRest, brakesOff_gate_self, State.updGate_gate_self]

@[simp] theorem enterAtRest_hoistMeas_self (st : GateState) (phase : Timer) (g : Gate) (d : Side) (s : State) :
    (enterAtRest st phase g s).hoistMeas g d = clearCounters (s.hoistMeas g d) := by
  simp only [enterAtRest, brakesOff_hoistMeas_self, State.updGate_hoistMeas]

/-! ### The fault stop of a gate (R127, R128) -/

/-- A gate in FAULT with its record: both hoists off, and their load-watch counters 0 (R13, R82, R130). -/
structure Faulted (g : Gate) (r : FaultRec) (s : State) : Prop where
  st : (s.gate g).st = .fault
  hoists : (s.gate g).hoists = ⟨.off, .off⟩
  record : (s.gate g).fault = some r
  counters : ∀ d, (s.hoistMeas g d).overload = 0 ∧ (s.hoistMeas g d).slack = 0

/-- A gate in FAULT that has no order in force and waits for no slot: no later operation of its event works on it. -/
structure StandsFaulted (g : Gate) (r : FaultRec) (s : State) : Prop extends Faulted g r s where
  order : s.orderInForce g = none
  waits : g ∉ s.arbiter.waiters
  joins : g ∉ s.arbiter.fresh

section
variable {g : Gate} {r : FaultRec} {s t : State}

/-- The last-outcome record and the link are no part of a gate's fault. -/
theorem Faulted.updGate (h : Faulted g r s) {f : GateSeq → GateSeq} (hst : ∀ q, (f q).st = q.st)
    (hh : ∀ q, (f q).hoists = q.hoists) (hr : ∀ q, (f q).fault = q.fault) : Faulted g r (s.updGate g f) where
  st := by rw [State.updGate_gate_self, hst, h.st]
  hoists := by rw [State.updGate_gate_self, hh, h.hoists]
  record := by rw [State.updGate_gate_self, hr, h.record]
  counters := h.counters

theorem Faulted.of_leaves (h : Faulted g r s) (k : LeavesGate g s t) : Faulted g r t where
  st := by rw [k.gate, h.st]
  hoists := by rw [k.gate, h.hoists]
  record := by rw [k.gate, h.record]
  counters d := by rw [k.meas]; exact h.counters d

theorem StandsFaulted.of_leaves (h : StandsFaulted g r s) (k : LeavesGate g s t) : StandsFaulted g r t where
  toFaulted := h.toFaulted.of_leaves k
  order := k.orderInForce_none h.order
  waits := fun w => h.waits (k.waits.1 w)
  joins := fun w => h.joins (k.joins.1 w)

theorem enterFault_faulted (g : Gate) (k : FaultKind) (d : Designation) (s : State) :
    Faulted g { kind := k, hoist := d, second := s.stamp, further := 0 } (enterFault g k d s) := by
  constructor <;> simp [enterFault, noticeFault, clearCounters]

theorem State.orderInForce_unlinked (s : State) (g : Gate) :
    (s.updGate g fun q => { q with link := none }).orderInForce g = none := by
  simp only [State.orderInForce, State.updGate_gate_self]

theorem loseOrder_of_fault (h : (s.gate g).st = .fault) :
    loseOrder g s = (s.updGate g fun q => { q with link := none }, []) := by
  unfold loseOrder
  rw [h]

/-- The GROUP holds of a retired order's set (R59) find its gate with no order in force, and leave it. -/
theorem Faulted.unlinked_groupOwnSet (h : Faulted g r s) (oc : Outcome) (set : Option Nat) :
    Faulted g r (groupOwnSet oc set (s.updGate g fun q => { q with link := none })) ∧
      (groupOwnSet oc set (s.updGate g fun q => { q with link := none })).orderInForce g = none := by
  have ho := State.orderInForce_unlinked s g
  have hg := groupOwnSet_leaves ho oc set
  have hn := h.updGate (f := fun q => { q with link := none }) (fun _ => rfl) (fun _ => rfl) fun _ => rfl
  exact ⟨hn.of_leaves hg, hg.orderInForce_none ho⟩

/-- A retirement at a gate in FAULT leaves the fault, and the gate with no order in force. -/
theorem retire_faulted (h : Faulted g r s) {n : Nat} (hl : (s.gate g).link = some n) (oc : Outcome) :
    Faulted g r (retire g n oc s).1 ∧ (retire g n oc s).1.orderInForce g = none := by
  unfold retire
  split
  · rename_i e
    exact ⟨h, by simp only [State.orderInForce, hl, e]⟩
  · rename_i o _
    have hq : Faulted g r (s.updQueue g (List.filter fun x => x.number != n)) := ⟨h.st, h.hoists, h.record, h.counters⟩
    have hs := hq.of_leaves (leaveOwnSet_leaves g n oc o.setNo _)
    have hr : Faulted g r (recordOutcome g o oc (leaveOwnSet n oc o.setNo _).1) :=
      (hs.updGate (f := fun q => { q with outcome := some _ }) (fun _ => rfl) (fun _ => rfl) fun _ => rfl).of_leaves
        (noticeOutcome_leaves g g _)
    dsimp only
    rw [if_pos hl, loseOrder_of_fault hr.st]
    exact hr.unlinked_groupOwnSet oc o.setNo

theorem leaveWait_standsFaulted (h : Faulted g r s) (ho : s.orderInForce g = none) :
    StandsFaulted g r (leaveWait g (releaseSlot g s)) := by
  have hr := releaseSlot_leaves g g s
  have hf := h.of_leaves hr
  exact { st := hf.st, hoists := hf.hoists, record := hf.record, counters := hf.counters,
          order := hr.orderInForce_none ho, waits := by simp [leaveWait], joins := by simp [leaveWait] }

theorem faultStop_standsFaulted (g : Gate) (k : FaultKind) (d : Designation) (s : State) :
    StandsFaulted g { kind := k, hoist := d, second := s.stamp, further := 0 } (faultStop g k d s).1 := by
  have h := enterFault_faulted g k d s
  have hlink : ((enterFault g k d s).gate g).link = (s.gate g).link := by simp [enterFault, noticeFault]
  unfold faultStop
  dsimp only
  split
  · rename_i n e
    obtain ⟨hf, ho⟩ := retire_faulted h (hlink.trans e) .faulted
    exact leaveWait_standsFaulted hf ho
  · rename_i e
    exact leaveWait_standsFaulted h (by simp only [State.orderInForce, hlink, e])

theorem settle_standsFaulted {x : State × List Gate} (h : StandsFaulted g r x.1) : StandsFaulted g r (settle x) :=
  h.of_leaves (storeTests_leaves_faulted h.st h.order _)

theorem closeEvent_standsFaulted (h : StandsFaulted g r s) : StandsFaulted g r (closeEvent s) :=
  h.of_leaves (closeEvent_leaves h.waits h.joins)

theorem raiseFault_of_disabled (h : (s.gate g).st = .disabled) (k : FaultKind) (d : Designation) :
    raiseFault g k d s = (s, []) := by
  unfold raiseFault
  rw [h]

theorem raiseFault_of_sound (hd : (s.gate g).st ≠ .disabled) (hf : (s.gate g).st ≠ .fault) (k : FaultKind)
    (d : Designation) : raiseFault g k d s = faultStop g k d s := by
  unfold raiseFault
  split
  · exact absurd ‹_› hd
  · exact absurd ‹_› hf
  · rfl

/-- A fault raised on a gate that is not in DISABLED or FAULT stands after the tests that follow from it (R127, R128). -/
theorem raiseFault_settled (hd : (s.gate g).st ≠ .disabled) (hf : (s.gate g).st ≠ .fault) (k : FaultKind)
    (d : Designation) :
    StandsFaulted g { kind := k, hoist := d, second := s.stamp, further := 0 } (settle (raiseFault g k d s)) := by
  rw [raiseFault_of_sound hd hf]
  exact settle_standsFaulted (faultStop_standsFaulted g k d s)

end

end Sys2Proof.Machine
end

section
/-! PROOFS. Statement O50: the conversions of the position and load channels, and the load watch. -/

namespace Sys2Proof.Machine

/-! ### The scan -/

theorem exec_conversionComplete {s : State} {sc : Scan} {ch : Channel} (hsc : s.measure.scan = some sc)
    (hch : channelOf sc.next = some ch) (code : Code) :
    exec (.conversionComplete code) s = .next (advanceScan (closeEvent (convert ch code s))) := by
  simp only [exec, execConversionComplete, nextChannel, hsc, hch]

theorem advanceScan_of_lt {s : State} {sc : Scan} (hsc : s.measure.scan = some sc) (h : sc.next < 28) :
    advanceScan s = { s with measure := { s.measure with scan := some { sc with next := sc.next + 1 } } } := by
  unfold advanceScan
  rw [hsc]
  exact if_pos h

/-! ### Windows (R4) -/

/-- A code lies in a window, both ends included. -/
abbrev Window.holds (w : Window) (c : Code) : Prop := w.low ≤ c.toNat ∧ c.toNat ≤ w.high

theorem standingOf_of_holds {w : Window} {c : Code} (h : w.holds c) : standingOf w c = .valid := by
  simp [standingOf, codeValid, within, h.1, h.2]

theorem standingOf_of_not_holds {w : Window} {c : Code} (h : ¬ w.holds c) : standingOf w c = .invalid := by
  have hv : codeValid w c = false := by
    rw [← Bool.not_eq_true]
    simpa [codeValid, within, Window.holds] using h
  simp [standingOf, hv]

theorem standingOf_eq_valid_iff {w : Window} {c : Code} : standingOf w c = .valid ↔ w.holds c := by
  by_cases h : w.holds c
  · exact iff_of_true (standingOf_of_holds h) h
  · exact iff_of_false (by simp [standingOf_of_not_holds h]) h

/-! ### Position conversions (R4, R5, R14, R16) -/

section
variable (s : State) (g : Gate) (d : Side) (c : Code) (m : HoistMeas)

@[simp] theorem takePosition_posRaw : (takePosition s g d c m).posRaw = c := by
  unfold takePosition
  dsimp only
  split
  · split <;> rfl
  · rfl

@[simp] theorem takePosition_posStanding :
    (takePosition s g d c m).posStanding = standingOf (s.settings.site.windows.get (.position g d)) c := by
  unfold takePosition
  dsimp only
  split
  · split
    · rfl
    · rfl
  · rfl

variable {s g d c}

theorem takePosition_of_no_geometry (hgeo : geometryValid (s.geo g) = false) :
    takePosition s g d c m = { m with
      posRaw := c, posStanding := standingOf (s.settings.site.windows.get (.position g d)) c, position := none,
      posValid := false, outOfBounds := false } := by
  simp [takePosition, hgeo]

theorem takePosition_of_valid {cal : CodePair} (hgeo : geometryValid (s.geo g) = true)
    (hcal : (s.geo g).posCal.get d = some cal) (hv : (s.settings.site.windows.get (.position g d)).holds c) :
    takePosition s g d c m = { m with
      posRaw := c, posStanding := .valid, position := some (scalePosition cal (s.fullTravel g) c), posValid := true,
      outOfBounds := beyond (s.fullTravel g) (scalePosition cal (s.fullTravel g) c) } := by
  simp [takePosition, hgeo, hcal, standingOf_of_holds hv]

theorem takePosition_of_invalid {cal : CodePair} (hgeo : geometryValid (s.geo g) = true)
    (hcal : (s.geo g).posCal.get d = some cal) (hv : ¬ (s.settings.site.windows.get (.position g d)).holds c) :
    takePosition s g d c m = { m with
      posRaw := c, posStanding := .invalid, posValid := false, outOfBounds := false } := by
  simp [takePosition, hgeo, hcal, standingOf_of_not_holds hv]

/-- No position is out of bounds after an invalid conversion (R16). -/
theorem takePosition_outOfBounds_of_invalid (hv : ¬ (s.settings.site.windows.get (.position g d)).holds c) :
    (takePosition s g d c m).outOfBounds = false := by
  simp only [takePosition, standingOf_of_not_holds hv]
  split
  · rfl
  · rfl

theorem beyond_iff (travel : Nat) (p : Int) : beyond travel p = true ↔ p < -250 ∨ (travel : Int) + 250 < p := by
  simp [beyond]

theorem limitWatched_iff (st : GateState) :
    limitWatched st = true ↔ st ∈ [GateState.releasing, .travel, .reversing, .stopping, .trim] := by
  cases st <;> simp [limitWatched]

end

/-- The state in which the Measurement Unit has read a position channel and no fault is raised yet. -/
def positionRead (g : Gate) (d : Side) (c : Code) (s : State) : State := s.updHoistMeas g d (takePosition s g d c)

section
variable {g : Gate} {d : Side} {c : Code} {s : State}

@[simp] theorem positionRead_hoistMeas :
    (positionRead g d c s).hoistMeas g d = takePosition s g d c (s.hoistMeas g d) :=
  State.updHoistMeas_hoistMeas_self _ _ _ _

/-- All that a position conversion can do (R14, R16). -/
theorem convertPosition_eq : convertPosition g d c s =
    if standingOf (s.settings.site.windows.get (.position g d)) c = .invalid ∧ (s.hoistMeas g d).posStanding ≠ .invalid then
      raiseFault g .position (designateSide d) (positionRead g d c s)
    else if (takePosition s g d c (s.hoistMeas g d)).outOfBounds && limitWatched (s.gate g).st then
      raiseFault g .limit (designateSide d) (positionRead g d c s)
    else (positionRead g d c s, []) := by
  simp only [convertPosition, State.updHoistMeas_hoistMeas_self, State.updHoistMeas_gate_eq, takePosition_posStanding,
    positionRead]

theorem convertPosition_cascade : CascadeR (positionRead g d c s) (convertPosition g d c s) := by
  rw [convertPosition_eq]
  split
  · exact raiseFault_cascade g _ _ _
  · split
    · exact raiseFault_cascade g _ _ _
    · exact .refl _

theorem convertPosition_of_lost (hv : ¬ (s.settings.site.windows.get (.position g d)).holds c)
    (hold : (s.hoistMeas g d).posStanding ≠ .invalid) :
    convertPosition g d c s = raiseFault g .position (designateSide d) (positionRead g d c s) := by
  rw [convertPosition_eq, if_pos ⟨standingOf_of_not_holds hv, hold⟩]

theorem convertPosition_of_out (hv : (s.settings.site.windows.get (.position g d)).holds c)
    (hout : (takePosition s g d c (s.hoistMeas g d)).outOfBounds = true) (hst : limitWatched (s.gate g).st = true) :
    convertPosition g d c s = raiseFault g .limit (designateSide d) (positionRead g d c s) := by
  rw [convertPosition_eq, standingOf_of_holds hv, if_neg (by simp), if_pos (by simp [hout, hst])]

theorem convertPosition_of_valid (hv : (s.settings.site.windows.get (.position g d)).holds c)
    (h : (takePosition s g d c (s.hoistMeas g d)).outOfBounds = false ∨ limitWatched (s.gate g).st = false) :
    convertPosition g d c s = (positionRead g d c s, []) := by
  rw [convertPosition_eq, standingOf_of_holds hv, if_neg (by simp), if_neg (by rcases h with h | h <;> simp [h])]

theorem convertPosition_of_invalid (hv : ¬ (s.settings.site.windows.get (.position g d)).holds c)
    (h : (s.hoistMeas g d).posStanding = .invalid ∨ (s.gate g).st = .disabled) :
    convertPosition g d c s = (positionRead g d c s, []) := by
  by_cases hold : (s.hoistMeas g d).posStanding = .invalid
  · rw [convertPosition_eq, if_neg fun k => k.2 hold, takePosition_outOfBounds_of_invalid _ hv]
    rfl
  · rw [convertPosition_of_lost hv hold]
    exact raiseFault_of_disabled (s := positionRead g d c s) (h.resolve_left hold) _ _

end

/-! ### Load conversions (R6, R11 to R13) -/

section
variable {g : Gate} {d : Side} {c : Code} {s : State} (m : HoistMeas)

@[simp] theorem takeLoad_loadRaw : (takeLoad s g d c m).loadRaw = c := by
  unfold takeLoad
  dsimp only
  split <;> rfl

@[simp] theorem takeLoad_loadStanding :
    (takeLoad s g d c m).loadStanding = standingOf (s.settings.site.windows.get (.load g d)) c := by
  unfold takeLoad
  dsimp only
  split <;> rfl

@[simp] theorem takeLoad_overload : (takeLoad s g d c m).overload = m.overload := by
  unfold takeLoad
  dsimp only
  split <;> rfl

@[simp] theorem takeLoad_slack : (takeLoad s g d c m).slack = m.slack := by
  unfold takeLoad
  dsimp only
  split <;> rfl

theorem clampInt_toNat (n : Int) : ((clampInt 0 2000 n).toNat : Int) = max 0 (min 2000 n) := by
  unfold clampInt
  omega

/-- A valid code gives the load by the calibration in effect, clamped, and an invalid one leaves it (R6). -/
theorem takeLoad_load : ((takeLoad s g d c m).load : Int) =
    if (s.settings.site.windows.get (.load g d)).low ≤ c.toNat ∧ c.toNat ≤ (s.settings.site.windows.get (.load g d)).high
    then max 0 (min 2000 (roundDiv (2000 * ((c.toNat : Int) - ((s.geo g).loadPair d).c0))
      ((((s.geo g).loadPair d).c1 : Int) - ((s.geo g).loadPair d).c0)))
    else m.load := by
  split
  · simp only [takeLoad, standingOf_of_holds ‹_›, if_true]
    exact clampInt_toNat _
  · simp only [takeLoad, standingOf_of_not_holds ‹_›, reduceCtorEq, if_false]

end

/-- The three ways of a load-watch counter (R11, R12), for a threshold test and an output given as propositions. -/
theorem countLoad_eq_ite {active past : Bool} {st : Standing} {A V P : Prop} [Decidable A] [Decidable V] [Decidable P]
    (ha : active = true ↔ A) (hv : st = .valid ↔ V) (hp : past = true ↔ P) (n : Nat) :
    countLoad active st past n = if ¬ A then 0 else if ¬ V then n else if P then n + 1 else 0 := by
  simp only [countLoad, ha, hv, hp, ite_not]

/-- A counter is raised to its filter count exactly at a valid load past its threshold while its output is on (R13). -/
theorem countRaises_countLoad (active : Bool) (st : Standing) (past : Bool) (n filter : Nat) :
    countRaises n (countLoad active st past n) filter = true ↔
      active = true ∧ (st = .valid ∧ past = true) ∧ filter ≤ n + 1 := by
  cases active
  · simp [countRaises, countLoad]
  · by_cases hst : st = .valid
    · cases past <;> simp [countRaises, countLoad, hst]
    · simp [countRaises, countLoad, hst]

section
variable {g : Gate} {d : Side} {s : State}

/-- The overload counter after a conversion (R11). -/
def overloadCount (g : Gate) (d : Side) (s : State) : Nat :=
  countLoad ((s.gate g).hoists.get d).brake (s.hoistMeas g d).loadStanding
    (Nat.ble (s.tune g).overload (s.hoistMeas g d).load) (s.hoistMeas g d).overload

/-- The slack counter after a conversion (R12). -/
def slackCount (g : Gate) (d : Side) (s : State) : Nat :=
  countLoad ((s.gate g).hoists.get d).lowerLine (s.hoistMeas g d).loadStanding
    (Nat.ble (s.hoistMeas g d).load (s.tune g).slack) (s.hoistMeas g d).slack

/-- A conversion brings the overload counter to its filter count (R13). -/
def Overloads (g : Gate) (d : Side) (s : State) : Prop :=
  ((s.gate g).hoists.get d).brake = true ∧
    ((s.hoistMeas g d).loadStanding = .valid ∧ (s.tune g).overload ≤ (s.hoistMeas g d).load) ∧
    (s.tune g).filter ≤ (s.hoistMeas g d).overload + 1

/-- A conversion brings the slack counter to its filter count (R13). -/
def Slackens (g : Gate) (d : Side) (s : State) : Prop :=
  ((s.gate g).hoists.get d).dir = .lower ∧
    ((s.hoistMeas g d).loadStanding = .valid ∧ (s.hoistMeas g d).load ≤ (s.tune g).slack) ∧
    (s.tune g).filter ≤ (s.hoistMeas g d).slack + 1

theorem overloads_iff :
    countRaises (s.hoistMeas g d).overload (overloadCount g d s) (s.tune g).filter = true ↔ Overloads g d s := by
  rw [overloadCount, countRaises_countLoad, Nat.ble_eq]
  rfl

theorem slackens_iff :
    countRaises (s.hoistMeas g d).slack (slackCount g d s) (s.tune g).filter = true ↔ Slackens g d s := by
  rw [slackCount, countRaises_countLoad, Nat.ble_eq, Hoist.lowerLine, beq_iff_eq]
  rfl

theorem watchOverload_of_overloads (h : Overloads g d s) :
    watchOverload g d s = raiseFault g .overload (designateSide d) (setOverload g d (overloadCount g d s) s) :=
  if_pos (overloads_iff.2 h)

theorem watchOverload_of_not (h : ¬ Overloads g d s) :
    watchOverload g d s = (setOverload g d (overloadCount g d s) s, []) :=
  if_neg (mt overloads_iff.1 h)

theorem watchSlack_of_slackens (h : Slackens g d s) :
    watchSlack g d s = raiseFault g .slack (designateSide d) (setSlack g d (slackCount g d s) s) :=
  if_pos (slackens_iff.2 h)

theorem watchSlack_of_not (h : ¬ Slackens g d s) :
    watchSlack g d s = (setSlack g d (slackCount g d s) s, []) :=
  if_neg (mt slackens_iff.1 h)

theorem watchOverload_readingsKept : ReadingsKept s (watchOverload g d s).1 := by
  have h := updHoistMeas_readingsKept s g d (f := fun x => { x with overload := overloadCount g d s }) fun _ => rfl
  by_cases hw : Overloads g d s
  · rw [watchOverload_of_overloads hw]
    exact h.trans (raiseFault_cascade g _ _ _).readingsKept
  · rw [watchOverload_of_not hw]
    exact h

theorem watchSlack_readingsKept : ReadingsKept s (watchSlack g d s).1 := by
  have h := updHoistMeas_readingsKept s g d (f := fun x => { x with slack := slackCount g d s }) fun _ => rfl
  by_cases hw : Slackens g d s
  · rw [watchSlack_of_slackens hw]
    exact h.trans (raiseFault_cascade g _ _ _).readingsKept
  · rw [watchSlack_of_not hw]
    exact h

end

/-- The state in which the Measurement Unit has read a load channel and neither watch has acted. -/
def loadRead (g : Gate) (d : Side) (c : Code) (s : State) : State := s.updHoistMeas g d (takeLoad s g d c)

section
variable {g : Gate} {d : Side} {c : Code} {s : State}

@[simp] theorem loadRead_hoistMeas : (loadRead g d c s).hoistMeas g d = takeLoad s g d c (s.hoistMeas g d) :=
  State.updHoistMeas_hoistMeas_self _ _ _ _

theorem overloads_loadRead : Overloads g d (loadRead g d c s) ↔
    ((s.gate g).hoists.get d).brake = true ∧
      ((s.settings.site.windows.get (.load g d)).holds c ∧
        (s.tune g).overload ≤ (takeLoad s g d c (s.hoistMeas g d)).load) ∧
      (s.tune g).filter ≤ (s.hoistMeas g d).overload + 1 := by
  simp only [Overloads, loadRead_hoistMeas, takeLoad_loadStanding, takeLoad_overload, standingOf_eq_valid_iff]
  rfl

theorem slackens_loadRead : Slackens g d (loadRead g d c s) ↔
    ((s.gate g).hoists.get d).dir = .lower ∧
      ((s.settings.site.windows.get (.load g d)).holds c ∧
        (takeLoad s g d c (s.hoistMeas g d)).load ≤ (s.tune g).slack) ∧
      (s.tune g).filter ≤ (s.hoistMeas g d).slack + 1 := by
  simp only [Slackens, loadRead_hoistMeas, takeLoad_loadStanding, takeLoad_slack, standingOf_eq_valid_iff]
  rfl

theorem convertLoad_eq : convertLoad g d c s = watchSlack g d (settle (watchOverload g d (loadRead g d c s))) := rfl

theorem settle_readingsKept (r : State × List Gate) : ReadingsKept r.1 (settle r) :=
  (storeTests_cascade _ _).readingsKept

/-- The two watches touch no reading (R13). -/
theorem convertLoad_readingsKept : ReadingsKept (loadRead g d c s) (closeEvent (settle (convertLoad g d c s))) :=
  ((((watchOverload_readingsKept).trans (settle_readingsKept _)).trans watchSlack_readingsKept).trans
    (settle_readingsKept _)).trans (closeEvent_cascade _).readingsKept

/-- The slack watch of a gate in FAULT leaves its counter at 0 and raises nothing, as the lower line is off. -/
theorem watchSlack_standsFaulted {r : FaultRec} (h : StandsFaulted g r s) :
    StandsFaulted g r (settle (watchSlack g d s)) := by
  have hoff : (s.gate g).hoists.get d = .off := by rw [h.hoists]; cases d <;> rfl
  have hw : ¬ Slackens g d s := fun k => by simp [Slackens, hoff, Hoist.off] at k
  have hn : slackCount g d s = 0 := by simp [slackCount, hoff, Hoist.off, Hoist.lowerLine, countLoad]
  have hkeep : LeavesGate g s (setSlack g d 0 s) := by
    refine ⟨rfl, rfl, fun e => ?_, .rfl, .rfl⟩
    rw [setSlack, State.updHoistMeas_hoistMeas]
    split
    · rename_i k
      rw [k.2, ← (h.counters d).2]
    · rfl
  rw [watchSlack_of_not hw, hn, settle_nil]
  exact h.of_leaves hkeep

/-- The overload watch comes first (notes/assumptions 18), and the slack watch then finds a gate in FAULT. -/
theorem convertLoad_of_overloads (h : Overloads g d (loadRead g d c s)) (hd : (s.gate g).st ≠ .disabled)
    (hf : (s.gate g).st ≠ .fault) :
    StandsFaulted g { kind := .overload, hoist := designateSide d, second := s.stamp, further := 0 }
      (closeEvent (settle (convertLoad g d c s))) := by
  rw [convertLoad_eq, watchOverload_of_overloads h]
  exact closeEvent_standsFaulted (watchSlack_standsFaulted
    (raiseFault_settled (s := setOverload g d _ (loadRead g d c s)) hd hf .overload (designateSide d)))

theorem slackens_setOverload (n : Nat) : Slackens g d (setOverload g d n s) ↔ Slackens g d s := by
  simp only [Slackens, setOverload, State.updHoistMeas_hoistMeas_self, State.updHoistMeas_gate_eq,
    State.updHoistMeas_tune]

theorem slackCount_setOverload (n : Nat) : slackCount g d (setOverload g d n s) = slackCount g d s := by
  simp only [slackCount, setOverload, State.updHoistMeas_hoistMeas_self, State.updHoistMeas_gate_eq,
    State.updHoistMeas_tune]

theorem convertLoad_of_not_overloads (h : ¬ Overloads g d (loadRead g d c s)) :
    convertLoad g d c s =
      watchSlack g d (setOverload g d (overloadCount g d (loadRead g d c s)) (loadRead g d c s)) := by
  rw [convertLoad_eq, watchOverload_of_not h, settle_nil]

theorem convertLoad_of_slackens (h : ¬ Overloads g d (loadRead g d c s)) (hs : Slackens g d (loadRead g d c s))
    (hd : (s.gate g).st ≠ .disabled) (hf : (s.gate g).st ≠ .fault) :
    StandsFaulted g { kind := .slack, hoist := designateSide d, second := s.stamp, further := 0 }
      (closeEvent (settle (convertLoad g d c s))) := by
  rw [convertLoad_of_not_overloads h, watchSlack_of_slackens ((slackens_setOverload _).2 hs)]
  exact closeEvent_standsFaulted
    (raiseFault_settled (s := setSlack g d _ (setOverload g d _ (loadRead g d c s))) hd hf .slack (designateSide d))

/-- The state that a load conversion leaves where it raises no fault: the two counters are all that the watches write. -/
def loadCounted (g : Gate) (d : Side) (c : Code) (s : State) : State :=
  setSlack g d (slackCount g d (loadRead g d c s))
    (setOverload g d (overloadCount g d (loadRead g d c s)) (loadRead g d c s))

theorem loadCounted_overload : ((loadCounted g d c s).hoistMeas g d).overload =
    if ¬ ((s.gate g).hoists.get d).brake = true then 0
    else if ¬ (s.settings.site.windows.get (.load g d)).holds c then (s.hoistMeas g d).overload
    else if (s.tune g).overload ≤ (takeLoad s g d c (s.hoistMeas g d)).load then (s.hoistMeas g d).overload + 1
    else 0 := by
  simp only [loadCounted, setSlack, setOverload, State.updHoistMeas_hoistMeas_self, overloadCount, loadRead_hoistMeas,
    takeLoad_loadStanding, takeLoad_overload]
  exact countLoad_eq_ite .rfl standingOf_eq_valid_iff (iff_of_eq (Nat.ble_eq ..)) _

theorem loadCounted_slack : ((loadCounted g d c s).hoistMeas g d).slack =
    if ¬ ((s.gate g).hoists.get d).dir = .lower then 0
    else if ¬ (s.settings.site.windows.get (.load g d)).holds c then (s.hoistMeas g d).slack
    else if (takeLoad s g d c (s.hoistMeas g d)).load ≤ (s.tune g).slack then (s.hoistMeas g d).slack + 1
    else 0 := by
  simp only [loadCounted, setSlack, State.updHoistMeas_hoistMeas_self, slackCount, loadRead_hoistMeas,
    takeLoad_loadStanding, takeLoad_slack]
  exact countLoad_eq_ite beq_iff_eq standingOf_eq_valid_iff (iff_of_eq (Nat.ble_eq ..)) _

theorem convertLoad_of_no_fault (h : ¬ Overloads g d (loadRead g d c s)) (hs : ¬ Slackens g d (loadRead g d c s)) :
    convertLoad g d c s = (loadCounted g d c s, []) := by
  rw [convertLoad_of_not_overloads h, watchSlack_of_not (mt (slackens_setOverload _).1 hs), slackCount_setOverload]
  rfl

end

/-! ### The event of a conversion, and statement O50 -/

/-- The state that a conversion's event leaves before the scan goes on. -/
def converted (ch : Channel) (c : Code) (s : State) : State := closeEvent (convert ch c s)

/-- `u` with the scan in progress gone on to its next channel. -/
def scannedOn (sc : Scan) (u : State) : State :=
  { u with measure := { u.measure with scan := some { sc with next := sc.next + 1 } } }

theorem exec_conversion_scannedOn {s : State} {sc : Scan} {ch : Channel} {code : Code}
    (hsc : s.measure.scan = some sc) (hlt : sc.next < 28) (hch : channelOf sc.next = some ch)
    (hkeep : (converted ch code s).measure.scan = s.measure.scan) :
    exec (.conversionComplete code) s = .next (scannedOn sc (converted ch code s)) := by
  rw [exec_conversionComplete hsc hch]
  exact congrArg _ (advanceScan_of_lt (hkeep.trans hsc) hlt)

theorem standingOf_eq_ite (w : Window) (c : Code) :
    standingOf w c = if w.low ≤ c.toNat ∧ c.toNat ≤ w.high then .valid else .invalid := by
  split
  · exact standingOf_of_holds ‹_›
  · exact standingOf_of_not_holds ‹_›

section
variable {g : Gate} {d : Side} {c : Code} {s : State}

theorem converted_position_readingsKept : ReadingsKept (positionRead g d c s) (converted (.position g d) c s) :=
  ((settle_cascade convertPosition_cascade).trans (closeEvent_cascade _)).readingsKept

theorem converted_position_hoistMeas : clearCounters ((converted (.position g d) c s).hoistMeas g d) =
    clearCounters (takePosition s g d c (s.hoistMeas g d)) :=
  (converted_position_readingsKept.hoists g d).trans (congrArg clearCounters positionRead_hoistMeas)

theorem converted_position_of_lost (hv : ¬ (s.settings.site.windows.get (.position g d)).holds c)
    (hold : (s.hoistMeas g d).posStanding ≠ .invalid) (hd : (s.gate g).st ≠ .disabled) (hf : (s.gate g).st ≠ .fault) :
    Faulted g { kind := .position, hoist := designateSide d, second := s.stamp, further := 0 }
      (converted (.position g d) c s) := by
  rw [converted, convert, convertPosition_of_lost hv hold]
  exact (closeEvent_standsFaulted
    (raiseFault_settled (s := positionRead g d c s) hd hf .position (designateSide d))).toFaulted

theorem converted_position_of_out (hv : (s.settings.site.windows.get (.position g d)).holds c)
    (hout : (takePosition s g d c (s.hoistMeas g d)).outOfBounds = true) (hst : limitWatched (s.gate g).st = true) :
    Faulted g { kind := .limit, hoist := designateSide d, second := s.stamp, further := 0 }
      (converted (.position g d) c s) := by
  have hd : (s.gate g).st ≠ .disabled := fun k => by rw [k] at hst; cases hst
  have hf : (s.gate g).st ≠ .fault := fun k => by rw [k] at hst; cases hst
  rw [converted, convert, convertPosition_of_out hv hout hst]
  exact (closeEvent_standsFaulted
    (raiseFault_settled (s := positionRead g d c s) hd hf .limit (designateSide d))).toFaulted

/-- A conversion that raises no fault is a reading alone. -/
theorem converted_position_of_no_fault (hq : s.quiet) (h : convertPosition g d c s = (positionRead g d c s, [])) :
    converted (.position g d) c s = positionRead g d c s := by
  rw [converted, convert, h, settle_nil]
  exact closeEvent_quiet hq

/-- The conversions of which the statement says that they touch no gate and no order raise no fault. -/
theorem convertPosition_untouched {cal : CodePair}
    (h : ((s.settings.site.windows.get (.position g d)).holds c ∧ ¬ limitWatched (s.gate g).st = true) ∨
      ((s.settings.site.windows.get (.position g d)).holds c ∧ geometryValid (s.geo g) = false) ∨
      ((s.settings.site.windows.get (.position g d)).holds c ∧ (s.geo g).posCal.get d = some cal ∧
        ¬ beyond (s.fullTravel g) (scalePosition cal (s.fullTravel g) c) = true) ∨
      (¬ (s.settings.site.windows.get (.position g d)).holds c ∧
        ((s.hoistMeas g d).posStanding = .invalid ∨ (s.gate g).st = .disabled))) :
    convertPosition g d c s = (positionRead g d c s, []) := by
  rcases h with ⟨hv, hst⟩ | ⟨hv, hgeo⟩ | ⟨hv, hcal, hin⟩ | ⟨hv, hold⟩
  · exact convertPosition_of_valid hv (.inr (by simpa using hst))
  · exact convertPosition_of_valid hv (.inl (by rw [takePosition_of_no_geometry _ hgeo]))
  · refine convertPosition_of_valid hv (.inl ?_)
    cases hgeo : geometryValid (s.geo g) with
    | false => rw [takePosition_of_no_geometry _ hgeo]
    | true =>
      rw [takePosition_of_valid _ hgeo hcal hv]
      simpa using hin
  · exact convertPosition_of_invalid hv hold

theorem converted_load_hoistMeas : clearCounters ((converted (.load g d) c s).hoistMeas g d) =
    clearCounters (takeLoad s g d c (s.hoistMeas g d)) :=
  (convertLoad_readingsKept.hoists g d).trans (congrArg clearCounters loadRead_hoistMeas)

theorem converted_load_of_overloads (h : Overloads g d (loadRead g d c s)) (hd : (s.gate g).st ≠ .disabled)
    (hf : (s.gate g).st ≠ .fault) :
    Faulted g { kind := .overload, hoist := designateSide d, second := s.stamp, further := 0 }
      (converted (.load g d) c s) :=
  (convertLoad_of_overloads h hd hf).toFaulted

theorem converted_load_of_slackens (h : ¬ Overloads g d (loadRead g d c s)) (hs : Slackens g d (loadRead g d c s))
    (hd : (s.gate g).st ≠ .disabled) (hf : (s.gate g).st ≠ .fault) :
    Faulted g { kind := .slack, hoist := designateSide d, second := s.stamp, further := 0 }
      (converted (.load g d) c s) :=
  (convertLoad_of_slackens h hs hd hf).toFaulted

theorem converted_load_of_no_fault (hq : s.quiet) (h : ¬ Overloads g d (loadRead g d c s))
    (hs : ¬ Slackens g d (loadRead g d c s)) : converted (.load g d) c s = loadCounted g d c s := by
  rw [converted, convert, convertLoad_of_no_fault h hs, settle_nil]
  exact closeEvent_quiet hq

end

/-- Settles O50: a conversion that raises a fault ends with the gate standing faulted (`raiseFault_settled`), one that raises
none is a reading with its counters and closes with nothing done (`closeEvent_quiet`), and the readings are those of
`takePosition` and `takeLoad` in each case (`ReadingsKept`). -/
theorem hoistConversions : Obligations.HoistConversions := by
  intro code g d sc cal s hsc hquiet
  dsimp only
  refine ⟨fun hnext => ?_, fun hnext => ?_⟩
  · obtain ⟨hlt, hch⟩ : sc.next < 28 ∧ channelOf sc.next = some (.position g d) := by
      rw [hnext]
      cases g <;> cases d <;> exact ⟨by decide, rfl⟩
    have hexec := exec_conversion_scannedOn (code := code) hsc hlt hch converted_position_readingsKept.scan
    have hm := converted_position_hoistMeas (g := g) (d := d) (c := code) (s := s)
    have hlost := converted_position_of_lost (g := g) (d := d) (c := code) (s := s)
    have hover := converted_position_of_out (g := g) (d := d) (c := code) (s := s)
    have hnone := fun h => converted_position_of_no_fault hquiet
      (convertPosition_untouched (g := g) (d := d) (c := code) (cal := cal) h)
    generalize converted (.position g d) code s = u at *
    refine ⟨scannedOn sc u, hexec, rfl,
      (congrArg HoistMeas.posRaw hm).trans (takePosition_posRaw ..),
      ((congrArg HoistMeas.posStanding hm).trans (takePosition_posStanding ..)).trans (standingOf_eq_ite ..),
      fun hgeo hcal => ⟨fun hv => ?_, fun hv => ?_⟩, fun hgeo => ?_, fun hv hold hd hf => ?_,
      fun hgeo hcal hv hout hmov => ?_, fun hcase => ?_⟩
    · rw [takePosition_of_valid _ hgeo hcal hv] at hm
      exact ⟨congrArg HoistMeas.position hm, congrArg HoistMeas.posValid hm,
        (iff_of_eq (congrArg (fun m => m.outOfBounds = true) hm)).trans (beyond_iff _ _)⟩
    · rw [takePosition_of_invalid _ hgeo hcal hv] at hm
      exact ⟨(congrArg HoistMeas.position hm :), (congrArg HoistMeas.posValid hm :), (congrArg HoistMeas.outOfBounds hm :)⟩
    · rw [takePosition_of_no_geometry _ hgeo] at hm
      exact ⟨congrArg HoistMeas.position hm, congrArg HoistMeas.outOfBounds hm⟩
    · have h := hlost hv hold hd hf
      exact ⟨h.st, h.hoists, h.record⟩
    · have hb : (takePosition s g d code (s.hoistMeas g d)).outOfBounds = true := by
        rw [takePosition_of_valid _ hgeo hcal hv]
        exact (beyond_iff _ _).2 hout
      have h := hover hv hb ((limitWatched_iff _).2 hmov)
      exact ⟨h.st, h.record⟩
    · rw [hnone (by rw [limitWatched_iff, beyond_iff]; exact hcase)]
      exact ⟨rfl, rfl, rfl⟩
  · obtain ⟨hlt, hch⟩ : sc.next < 28 ∧ channelOf sc.next = some (.load g d) := by
      rw [hnext]
      cases g <;> cases d <;> exact ⟨by decide, rfl⟩
    have hexec := exec_conversion_scannedOn (code := code) hsc hlt hch convertLoad_readingsKept.scan
    have hm := converted_load_hoistMeas (g := g) (d := d) (c := code) (s := s)
    have hload : ((converted (.load g d) code s).hoistMeas g d).load = (takeLoad s g d code (s.hoistMeas g d)).load :=
      (congrArg HoistMeas.load hm :)
    have hheavy := converted_load_of_overloads (g := g) (d := d) (c := code) (s := s)
    have hlight := converted_load_of_slackens (g := g) (d := d) (c := code) (s := s)
    have hnone := converted_load_of_no_fault (g := g) (d := d) (c := code) hquiet
    rw [overloads_loadRead, ← hload] at hheavy hlight hnone
    rw [slackens_loadRead, ← hload] at hlight hnone
    generalize converted (.load g d) code s = u at *
    refine ⟨scannedOn sc u, hexec, rfl,
      (congrArg HoistMeas.loadRaw hm).trans (takeLoad_loadRaw ..),
      ((congrArg HoistMeas.loadStanding hm).trans (takeLoad_loadStanding ..)).trans (standingOf_eq_ite ..),
      (congrArg Int.ofNat hload).trans (takeLoad_load ..),
      fun ho hs => ?_, fun ho hl hs => ?_, fun ho hl => ?_⟩
    · have h := hheavy ho hs.1 hs.2
      exact ⟨h.st, h.hoists, (h.counters d).1, (h.counters d).2, h.record⟩
    · have h := hlight ho hl hs.1 hs.2
      exact ⟨h.st, h.hoists, (h.counters d).1, (h.counters d).2, h.record⟩
    · have hov := loadCounted_overload (g := g) (d := d) (c := code) (s := s)
      have hsl := loadCounted_slack (g := g) (d := d) (c := code) (s := s)
      rw [← hnone ho hl, ← hload] at hov hsl
      refine ⟨hov, hsl, ?_⟩
      rw [hnone ho hl]
      exact ⟨rfl, rfl, rfl⟩

end Sys2Proof.Machine
end

section
/-! PROOFS. Statement O49: the start of a scan, the conversion of a gauge channel, and the HEAD releases of its level update. -/

namespace Sys2Proof.Machine

/-! ### The start of a scan (R2) -/

theorem startScan_eq (s : State) : startScan s = { s with
    measure := { s.measure with
      scan := some (if s.supply.st = .parked then { mode := .levelsOnly, next := 25 } else { mode := .full, next := 1 })
      scanTimer := some (if s.supply.st = .parked then 10000 else 10), sinceScan := 0, fullDue := false } } := by
  cases h : s.supply.st <;> simp [startScan, h, scanMode, firstChannel, scanPeriod, Config.fullScanTime, Config.levelsScanTime]

theorem exec_scanTimerExpiry_of_due {s : State} {left : Nat} (ht : s.measure.scanTimer = some left)
    (hs : s.measure.scan = none) : exec .scanTimerExpiry s = .next (startScan s) := by
  simp [exec, execScanTimerExpiry, ht, hs]

theorem exec_scanTimerExpiry_of_not {s : State} (h : s.measure.scan ≠ none ∨ s.measure.scanTimer = none) :
    exec .scanTimerExpiry s = .next s := by
  rcases h with h | h
  · obtain ⟨sc, hsc⟩ := Option.ne_none_iff_exists'.1 h
    simp [exec, execScanTimerExpiry, hsc]
  · simp [exec, execScanTimerExpiry, h]

/-- The end of a conversion changes nothing but the scan and its timer. -/
theorem advanceScan_spec (s : State) : ∃ a b c e, advanceScan s =
    { s with measure := { s.measure with scan := a, scanTimer := b, sinceScan := c, fullDue := e } } := by
  unfold advanceScan
  split
  · exact ⟨_, _, _, _, rfl⟩
  · split
    · exact ⟨_, _, _, _, rfl⟩
    · dsimp only
      split
      · exact ⟨_, _, _, _, rfl⟩
      · exact ⟨_, _, _, _, rfl⟩

/-! ### The reading of a gauge (R4, R7 to R9) -/

theorem Pair.get_set {α : Type} (p : Pair α) (n m : GaugeName) (a : α) :
    (p.set n a).get m = if m = n then a else p.get m := by
  cases n <;> cases m <;> rfl

section
variable (w : Weir) (n : GaugeName) (c : Code) (s : State)

theorem measureGauge_gauge : ((measureGauge w n c s).measure.gauges.get w).get n =
    takeGauge s w n c ((s.measure.gauges.get w).get n) := by
  simp [measureGauge, formHead]

theorem measureGauge_other_gauge {v : Weir} {m : GaugeName} (h : (v, m) ≠ (w, n)) :
    ((measureGauge w n c s).measure.gauges.get v).get m = (s.measure.gauges.get v).get m := by
  simp only [measureGauge, formHead, Weirs.get_set]
  split
  · rename_i hv
    rw [Pair.get_set, if_neg fun k => h (by rw [hv, k]), hv]
  · rfl

theorem measureGauge_side : (measureGauge w n c s).measure.sides.get w =
    agree s.settings.site.tolerance ((measureGauge w n c s).measure.gauges.get w) (s.measure.sides.get w) := by
  simp [measureGauge, formHead]

theorem measureGauge_other_side {v : Weir} (h : v ≠ w) :
    (measureGauge w n c s).measure.sides.get v = s.measure.sides.get v := by
  simp [measureGauge, formHead, Weirs.get_set, h]

/-- A valid code gives the level between the two calibration points, clamped, and an invalid one leaves it (R7). -/
theorem takeGauge_eq_ite (m : GaugeMeas) : takeGauge s w n c m =
    if (s.settings.site.windows.get (.gauge w n)).holds c then
      { raw := c, standing := .valid, level := scaleLevel ((s.settings.site.gauges.get w).get n) c }
    else { m with raw := c, standing := .invalid } := by
  split
  · simp [takeGauge, standingOf_of_holds ‹_›]
  · simp [takeGauge, standingOf_of_not_holds ‹_›]

end

section
variable {tol : Nat} {x : Pair GaugeMeas} {old : SideLevel}

/-! The table of R8. -/

theorem agree_good (ha : x.a.standing = .valid) (hb : x.b.standing = .valid)
    (h : (x.a.level - x.b.level).natAbs ≤ tol) :
    agree tol x old = { agreed := (x.a.level + x.b.level).tdiv 2, quality := .good } := by
  simp [agree, ha, hb, h, meanOf]

theorem agree_disputed (ha : x.a.standing = .valid) (hb : x.b.standing = .valid)
    (h : tol < (x.a.level - x.b.level).natAbs) : agree tol x old = { agreed := old.agreed, quality := .disputed } := by
  simp [agree, ha, hb, Nat.not_le.2 h]

theorem agree_single_a (ha : x.a.standing = .valid) (hb : x.b.standing ≠ .valid) :
    agree tol x old = { agreed := x.a.level, quality := .single } := by
  cases h : x.b.standing with
  | valid => exact absurd h hb
  | unread => simp [agree, ha, h]
  | invalid => simp [agree, ha, h]

theorem agree_single_b (ha : x.a.standing ≠ .valid) (hb : x.b.standing = .valid) :
    agree tol x old = { agreed := x.b.level, quality := .single } := by
  cases h : x.a.standing with
  | valid => exact absurd h ha
  | unread => simp [agree, hb, h]
  | invalid => simp [agree, hb, h]

theorem agree_lost (ha : x.a.standing ≠ .valid) (hb : x.b.standing ≠ .valid) :
    agree tol x old = { agreed := old.agreed, quality := .lost } := by
  unfold agree
  split
  · exact absurd ‹x.a.standing = .valid› ha
  · exact absurd ‹x.a.standing = .valid› ha
  · exact absurd ‹x.b.standing = .valid› hb
  · rfl

end

theorem trusted_iff (q : Quality) : trusted q = true ↔ q ∈ [Quality.good, .single] := by
  cases q <;> simp [trusted]

/-! ### What a level update leaves of the levels (R10) -/

/-- The gauges, the sides, the head and the scan are as they were. -/
structure LevelsKept (s t : State) : Prop where
  gauges : t.measure.gauges = s.measure.gauges
  sides : t.measure.sides = s.measure.sides
  head : t.measure.head = s.measure.head
  headDisputed : t.measure.headDisputed = s.measure.headDisputed
  scan : t.measure.scan = s.measure.scan

theorem LevelsKept.trans {s t u : State} (h : LevelsKept s t) (k : LevelsKept t u) : LevelsKept s u :=
  ⟨k.gauges.trans h.gauges, k.sides.trans h.sides, k.head.trans h.head, k.headDisputed.trans h.headDisputed,
    k.scan.trans h.scan⟩

theorem Cascade.levelsKept {s t : State} (h : Cascade s t) : LevelsKept s t :=
  ⟨h.gauges_eq, h.sides_eq, h.head_eq, h.headDisputed_eq, h.scan_eq⟩

theorem enterSupply_measure (st : SupplyState) (drive : Bool) (phase : Timer) (s : State) :
    (enterSupply st drive phase s).measure = s.measure := by
  unfold enterSupply noticeSupply
  split <;> rfl

/-- A wake condition during a scan leaves the scan to run on (R3). -/
theorem wake_levelsKept {s : State} {sc : Scan} (hsc : s.measure.scan = some sc) : LevelsKept s (wake s) := by
  have henter (drive : Bool) (phase : Timer) : LevelsKept s (enterSupply .waking drive phase s) := by
    constructor <;> rw [enterSupply_measure]
  unfold wake
  split
  · split
    · exact henter _ _
    · refine (henter true (some Config.settleTime)).trans ?_
      unfold wakeScan
      rw [enterSupply_measure, hsc]
      exact ⟨by rw [enterSupply_measure], by rw [enterSupply_measure], by rw [enterSupply_measure],
        by rw [enterSupply_measure], by rw [enterSupply_measure, hsc]⟩
    · exact (Cascade.refl s).levelsKept
    · exact (Cascade.refl s).levelsKept
  · exact (Cascade.refl s).levelsKept

theorem followReady_levelsKept {s : State} {sc : Scan} (hsc : s.measure.scan = some sc) (made : List (Gate × Order))
    (also : List Gate) : LevelsKept s (followReady made also s) := by
  have htests (x : State) (l : List Nat) (gs : List Gate) : LevelsKept x (storeTests gs (testSets l x).1) :=
    ((testSets_cascade l x).trans (storeTests_cascade gs _)).levelsKept
  unfold followReady
  dsimp only
  split
  · exact htests _ _ _
  · exact (wake_levelsKept hsc).trans (htests _ _ _)

theorem levelStarts_levelsKept {s : State} {sc : Scan} (hsc : s.measure.scan = some sc) (w : Weir) :
    LevelsKept s (levelStarts w s) := by
  unfold levelStarts
  dsimp only
  split
  · have h := (makeReady_cascade _ (levelMet_queued w (s.measure.sides.get w).agreed) s).trans
      (armOrders_cascade (levelArms w (s.measure.sides.get w).agreed s.settings.site.hysteresis) _)
    split
    · exact h.levelsKept
    · exact h.levelsKept.trans (followReady_levelsKept (h.scan_eq.trans hsc) _ _)
  · exact (Cascade.refl s).levelsKept

theorem converted_gauge_levelsKept {s : State} {sc : Scan} (hsc : s.measure.scan = some sc) (w : Weir) (n : GaugeName)
    (c : Code) : LevelsKept (measureGauge w n c s) (converted (.gauge w n) c s) :=
  (levelStarts_levelsKept (s := measureGauge w n c s) hsc w).trans
    ((headReleases_cascade _).trans (closeEvent_cascade _)).levelsKept

theorem converted_moves (ch : Channel) (c : Code) (s : State) : Moves s (converted ch c s) :=
  (convert_moves ch c s).trans (.cascade (closeEvent_cascade _))

/-! ### The Start Watch where no order waits for a level (R73) -/

theorem State.updQueue_eq_self {s : State} {g : Gate} {f : List Order → List Order} (h : f (s.queue g) = s.queue g) :
    s.updQueue g f = s := by
  have hq : s.store.queues.set g (f (s.store.queues.get g)) = s.store.queues := by
    rw [show f (s.store.queues.get g) = s.store.queues.get g from h, PerGate.set_get]
  simp only [State.updQueue, hq]

/-- An update of the orders that a test picks does nothing where it picks none. -/
theorem foldl_updQueue_eq_self {s : State} {p : Order → Bool} (f : Order → Order)
    (hp : ∀ g, ∀ o ∈ s.queue g, p o = false) :
    Gate.all.foldl (fun acc g => acc.updQueue g (List.map fun o => if p o then f o else o)) s = s := by
  have hstep (g : Gate) : s.updQueue g (List.map fun o => if p o then f o else o) = s :=
    State.updQueue_eq_self ((List.map_congr_left fun o ho => by rw [hp g o ho]; rfl).trans (List.map_id _))
  induction Gate.all with
  | nil => rfl
  | cons g l ih => rw [List.foldl_cons, hstep g, ih]

theorem State.mem_liveOrders {s : State} {g : Gate} {o : Order} : (g, o) ∈ s.liveOrders ↔ o ∈ s.queue g := by
  simp [State.liveOrders]

theorem levelStarts_of_no_watch {w : Weir} {s : State} (h : ∀ g, ∀ o ∈ s.queue g, watches w o = false) :
    levelStarts w s = s := by
  have hmet (l : Int) : ∀ g, ∀ o ∈ s.queue g, levelMet w l o = false := fun g o ho => by simp [levelMet, h g o ho]
  have harm (l : Int) (k : Nat) : ∀ g, ∀ o ∈ s.queue g, levelArms w l k o = false :=
    fun g o ho => by simp [levelArms, h g o ho]
  have hmade (l : Int) : s.liveOrders.filter (fun p => levelMet w l p.2) = [] :=
    List.filter_eq_nil_iff.2 fun p hp => by simp [hmet l p.1 p.2 (State.mem_liveOrders.1 hp)]
  unfold levelStarts makeReady armOrders
  dsimp only
  rw [hmade, foldl_updQueue_eq_self _ (hmet _), foldl_updQueue_eq_self _ (harm _ _)]
  exact ite_self _

theorem watches_of_no_level {w : Weir} {o : Order} (h : o.state = .queued → ∀ dir v l, o.start ≠ .level dir v l) :
    watches w o = false := by
  by_cases hq : o.state = .queued
  · cases hs : o.start with
    | level dir v l => exact absurd hs (h hq dir v l)
    | immediate => simp [watches, hs]
    | atTime t => simp [watches, hs]
  · simp [watches, hq]

/-! ### Grants (R163) -/

section
variable (g : Gate) (s : State)

theorem brakesOn_store : (brakesOn g s).store = s.store := by
  unfold brakesOn
  split <;> rfl

@[simp] theorem brakesOn_st_self : ((brakesOn g s).gate g).st = (s.gate g).st := by
  unfold brakesOn
  split
  · rw [brakesOff_gate_self]
  · rw [State.updGate_gate_self]

@[simp] theorem brakesOn_link_self : ((brakesOn g s).gate g).link = (s.gate g).link := by
  unfold brakesOn
  split
  · rw [brakesOff_gate_self]
  · rw [State.updGate_gate_self]

theorem enterReleasing_st_self : ((enterReleasing g s).gate g).st = .releasing := by simp [enterReleasing]

theorem enterReleasing_link_self : ((enterReleasing g s).gate g).link = (s.gate g).link := by simp [enterReleasing]

theorem enterTrim_link_self : ((enterTrim g s).gate g).link = (s.gate g).link := by simp [enterTrim]

theorem enterWaitGrant_gate_self : (enterWaitGrant g s).gate g = { s.gate g with
    st := .waitGrant, stepTimer := none, phaseTimer := none, trimTimer := none, hoists := ⟨.off, .off⟩ } :=
  enterAtRest_gate_self .waitGrant none g s

theorem grant_store : (grant g s).store = s.store := by
  unfold grant
  dsimp only
  split <;> exact brakesOn_store _ _

theorem grant_link_self : ((grant g s).gate g).link = (s.gate g).link := by
  unfold grant
  dsimp only
  split
  · exact enterReleasing_link_self g _
  · exact enterTrim_link_self g _

/-- A gate with an order in force is granted a slot into RELEASING (R88). -/
theorem grant_st_self (h : (s.gate g).link ≠ none) : ((grant g s).gate g).st = .releasing := by
  unfold grant
  dsimp only
  split
  · exact enterReleasing_st_self g _
  · exact absurd ‹_› h

end

/-- What grants leave of a gate: its link and every queue, and with an order in force it stands as before or releases. -/
structure GrantsKeep (g : Gate) (s t : State) : Prop where
  store : t.store = s.store
  link : (t.gate g).link = (s.gate g).link
  st : (s.gate g).link ≠ none → (t.gate g).st = (s.gate g).st ∨ (t.gate g).st = .releasing

theorem GrantsKeep.refl (g : Gate) (s : State) : GrantsKeep g s s := ⟨rfl, rfl, fun _ => .inl rfl⟩

theorem GrantsKeep.trans {g : Gate} {s t u : State} (h : GrantsKeep g s t) (k : GrantsKeep g t u) : GrantsKeep g s u where
  store := k.store.trans h.store
  link := k.link.trans h.link
  st hl := by
    rcases k.st (h.link ▸ hl) with e | e
    · rw [e]
      exact h.st hl
    · exact .inr e

theorem grant_keeps (g h : Gate) (s : State) : GrantsKeep g s (grant h s) := by
  by_cases hh : g = h
  · subst hh
    exact ⟨grant_store g s, grant_link_self g s, fun hl => .inr (grant_st_self g s hl)⟩
  · have k := grant_leaves hh s
    exact ⟨grant_store h s, by rw [k.gate], fun _ => .inl (by rw [k.gate])⟩

theorem grantAll_keeps (g : Gate) (fuel : Nat) (s : State) : GrantsKeep g s (grantAll fuel s) := by
  induction fuel generalizing s with
  | zero => exact .refl g s
  | succ n ih =>
    unfold grantAll
    split
    · split
      · exact .refl g s
      · exact (grant_keeps g _ s).trans (ih _)
    · exact .refl g s

theorem closeEvent_keeps (g : Gate) (s : State) : GrantsKeep g s (closeEvent s) := by
  have h : GrantsKeep g s (gathered s) := ⟨rfl, rfl, fun _ => .inl rfl⟩
  rw [closeEvent_eq]
  split
  · exact h.trans (grantAll_keeps g _ _)
  · exact h

theorem closeEvent_orderInForce (g : Gate) (s : State) : (closeEvent s).orderInForce g = s.orderInForce g := by
  have h := closeEvent_keeps g s
  exact State.orderInForce_congr h.link (congrArg (fun x => x.queues.get g) h.store)

theorem grantAll_of_no_room {s : State} (h : s.arbiter.limit ≤ s.arbiter.holders.length) (fuel : Nat) :
    grantAll fuel s = s := by
  cases fuel with
  | zero => rfl
  | succ n => exact if_neg (Nat.not_lt.2 h)

theorem closeEvent_gate_of_no_room {s : State} (h : s.arbiter.limit ≤ s.arbiter.holders.length) (g : Gate) :
    (closeEvent s).gate g = s.gate g := by
  rw [closeEvent_eq]
  split
  · rw [grantAll_of_no_room (s := gathered s) h]
    rfl
  · rfl

/-! ### The HEAD release of a gate (R99, R102) -/

theorem State.updOrder_orderIn (s : State) (g : Gate) (m n : Nat) {f : Order → Order}
    (hf : ∀ x, (f x).number = x.number) :
    (s.updOrder g m f).orderIn g n = (s.orderIn g n).map fun o => if o.number = m then f o else o := by
  have hp : ((fun x : Order => x.number == n) ∘ fun x => if x.number = m then f x else x) = fun x => x.number == n := by
    funext x
    by_cases hx : x.number = m
    · simp only [Function.comp_apply, if_pos hx, hf]
    · simp only [Function.comp_apply, if_neg hx]
  simp only [State.orderIn, State.updOrder, State.updQueue_queue_self, List.find?_map, hp]

theorem State.orderInForce_eq_some {s : State} {g : Gate} {o : Order} :
    s.orderInForce g = some o ↔ ∃ n, (s.gate g).link = some n ∧ s.orderIn g n = some o := by
  unfold State.orderInForce
  cases (s.gate g).link <;> simp

theorem State.updOrder_orderInForce {s : State} {g : Gate} {o : Order} {f : Order → Order}
    (ho : s.orderInForce g = some o) (hf : ∀ x, (f x).number = x.number) :
    (s.updOrder g o.number f).orderInForce g = some (f o) := by
  obtain ⟨n, hl, hn⟩ := State.orderInForce_eq_some.1 ho
  refine State.orderInForce_eq_some.2 ⟨n, hl, ?_⟩
  rw [State.updOrder_orderIn s g _ n hf, hn, Option.map_some, if_pos rfl]

/-- HEAD is to be removed from an order: it stands, and the head stands at or above the guard by the hysteresis (R102). -/
def HeadClears (s : State) (o : Order) : Prop :=
  o.holds.head = true ∧ ∃ x, o.guard = some x ∧ x + (s.settings.site.hysteresis : Int) ≤ s.measure.head

theorem removeHold_of_not_has {s : State} {g : Gate} {o : Order} {r : HoldReason} (ho : s.orderInForce g = some o)
    (h : o.holds.has r = false) : removeHold g r s = s := by
  simp [removeHold, ho, h]

theorem headRelease_of_not {s : State} {g : Gate} {o : Order} (ho : s.orderInForce g = some o) (h : ¬ HeadClears s o) :
    headRelease g s = s := by
  unfold headRelease
  rw [ho]
  dsimp only
  split
  · rfl
  · rename_i x hx
    split
    · rename_i hle
      refine removeHold_of_not_has ho ?_
      rw [← Bool.not_eq_true]
      exact fun k => h ⟨k, x, hx, hle⟩
    · rfl

/-- The order with HEAD taken out, in its queue. -/
def headCleared (g : Gate) (o : Order) (s : State) : State := s.updOrder g o.number (Order.withoutReason .head)

theorem headRelease_of_clears {s : State} {g : Gate} {o : Order} (ho : s.orderInForce g = some o) (h : HeadClears s o) :
    headRelease g s =
      if (o.holds.put .head false).isEmpty then gateFreed g (headCleared g o s) else headCleared g o s := by
  obtain ⟨hh, x, hx, hle⟩ := h
  have hhas : o.holds.has .head = true := hh
  simp only [headRelease, ho, hx, hle, if_true, removeHold, hhas]
  rfl

theorem gateFreed_orderInForce (g : Gate) (s : State) : (gateFreed g s).orderInForce g = s.orderInForce g := by
  unfold gateFreed
  split
  · exact State.orderInForce_congr (congrArg GateSeq.link (enterWaitGrant_gate_self g s) :) rfl
  · rfl

theorem gateFreed_of_held {g : Gate} {s : State} (h : (s.gate g).st = .held) : gateFreed g s = enterWaitGrant g s := by
  unfold gateFreed
  rw [h]

theorem gateFreed_of_not_held {g : Gate} {s : State} (h : (s.gate g).st ≠ .held) : gateFreed g s = s := by
  unfold gateFreed
  split
  · exact absurd ‹_› h
  · rfl

theorem gateFreed_holders (g : Gate) (s : State) : (gateFreed g s).arbiter.holders = s.arbiter.holders := by
  unfold gateFreed
  split <;> rfl

theorem headRelease_orderInForce {s : State} {g : Gate} {o : Order} (ho : s.orderInForce g = some o)
    (h : HeadClears s o) : (headRelease g s).orderInForce g = some (o.withoutReason .head) := by
  have hc : (headCleared g o s).orderInForce g = some (o.withoutReason .head) :=
    State.updOrder_orderInForce ho fun _ => rfl
  rw [headRelease_of_clears ho h]
  split
  · rw [gateFreed_orderInForce, hc]
  · exact hc

/-- A gate in HELD whose order HEAD alone held waits for a slot (R99). -/
theorem headRelease_st {s : State} {g : Gate} {o : Order} (ho : s.orderInForce g = some o) (h : HeadClears s o)
    (he : (o.holds.put .head false).isEmpty = true) (hst : (s.gate g).st = .held) :
    ((headRelease g s).gate g).st = .waitGrant := by
  rw [headRelease_of_clears ho h, if_pos he, gateFreed_of_held (s := headCleared g o s) hst]
  exact congrArg GateSeq.st (enterWaitGrant_gate_self g _)

/-- Any other release changes neither the gate nor the arbiter. -/
theorem headRelease_gate_arbiter {s : State} {g : Gate} {o : Order} (ho : s.orderInForce g = some o)
    (h : ¬ (HeadClears s o ∧ (o.holds.put .head false).isEmpty = true ∧ (s.gate g).st = .held)) :
    (headRelease g s).gate g = s.gate g ∧ (headRelease g s).arbiter = s.arbiter := by
  by_cases hc : HeadClears s o
  · rw [headRelease_of_clears ho hc]
    split
    · rename_i he
      rw [gateFreed_of_not_held (s := headCleared g o s) fun hst => h ⟨hc, he, hst⟩]
      exact ⟨rfl, rfl⟩
    · exact ⟨rfl, rfl⟩
  · rw [headRelease_of_not ho hc]
    exact ⟨rfl, rfl⟩

theorem headRelease_leaves {g h : Gate} (hne : g ≠ h) (s : State) : LeavesGate g s (headRelease h s) := by
  unfold headRelease
  split
  · exact .refl g s
  · split
    · exact .refl g s
    · split
      · exact removeHold_leaves hne _ s
      · exact .refl g s

theorem removeHold_holders (g : Gate) (r : HoldReason) (s : State) :
    (removeHold g r s).arbiter.holders = s.arbiter.holders := by
  unfold removeHold
  split
  · rfl
  · split
    · dsimp only
      split
      · exact gateFreed_holders g _
      · rfl
    · rfl

theorem headRelease_holders (g : Gate) (s : State) : (headRelease g s).arbiter.holders = s.arbiter.holders := by
  unfold headRelease
  split
  · rfl
  · split
    · rfl
    · split
      · exact removeHold_holders g _ s
      · rfl

/-! ### The HEAD releases of a level update -/

theorem foldl_headRelease_holders (l : List Gate) (s : State) :
    (l.foldl (fun acc g => headRelease g acc) s).arbiter.holders = s.arbiter.holders := by
  induction l generalizing s with
  | nil => rfl
  | cons g l ih => exact (ih _).trans (headRelease_holders g s)

theorem headReleases_holders (s : State) : (headReleases s).arbiter.holders = s.arbiter.holders := by
  unfold headReleases
  split
  · exact foldl_headRelease_holders _ s
  · rfl

/-- Each gate stands once in the gate order. -/
theorem Gate.all_split (g : Gate) : ∃ l r, Gate.all = l ++ g :: r ∧ g ∉ l ∧ g ∉ r := by
  obtain ⟨l, r, h⟩ := List.append_of_mem (Gate.mem_all g)
  have hn : (l ++ g :: r).Nodup := h ▸ by decide
  obtain ⟨_, hr, hd⟩ := List.nodup_append.1 hn
  exact ⟨l, r, h, fun k => hd g k g (List.mem_cons_self ..) rfl, (List.nodup_cons.1 hr).1⟩

/-- While both sides are GOOD or SINGLE, a gate meets its own HEAD release alone, in a state that has left it as it was. -/
theorem headReleases_at {s : State} (hs : (trusted s.measure.sides.up.quality && trusted s.measure.sides.down.quality) = true)
    (g : Gate) : ∃ x, Cascade s x ∧ LeavesGate g s x ∧ LeavesGate g (headRelease g x) (headReleases s) := by
  obtain ⟨l, r, hall, hl, hr⟩ := Gate.all_split g
  refine ⟨l.foldl (fun acc h => headRelease h acc) s, .foldl (fun s h => headRelease_cascade h s) l s,
    .foldl fun x _ h hh => headRelease_leaves (fun e : g = h => hl (e ▸ hh)) x, ?_⟩
  rw [headReleases, if_pos hs, hall, List.foldl_append, List.foldl_cons]
  exact .foldl fun x _ h hh => headRelease_leaves (fun e : g = h => hr (e ▸ hh)) x

theorem headReleases_of_untrusted {s : State}
    (hs : (trusted s.measure.sides.up.quality && trusted s.measure.sides.down.quality) = false) :
    headReleases s = s := by
  simp [headReleases, hs]

theorem HeadClears.of_cascade {s t : State} (h : Cascade s t) (o : Order) : HeadClears t o ↔ HeadClears s o := by
  simp only [HeadClears, h.settings_eq, h.head_eq]

/-! ### The order and the gate at the close of a level update -/

/-- Both sides are GOOD or SINGLE, so that the sequencers make their HEAD releases (R102). -/
def LevelsTrusted (s : State) : Prop :=
  (trusted s.measure.sides.up.quality && trusted s.measure.sides.down.quality) = true

/-- An order held for HEAD alone is held for nothing once HEAD is out (R33). -/
theorem HoldSet.put_head_isEmpty_iff {h : HoldSet} (hh : h.head = true) :
    (h.put .head false).isEmpty = true ↔ h = { HoldSet.none with head := true } := by
  rcases h with ⟨i, a, e, g, s⟩
  subst hh
  simp [HoldSet.put, HoldSet.isEmpty, HoldSet.none, and_assoc]

theorem Order.withoutReason_head {o : Order} (hh : o.holds.head = true) : o.withoutReason .head = { o with
    state := if o.holds = { HoldSet.none with head := true } then .inForce else o.state,
    holds := { o.holds with head := false } } := by
  simp only [Order.withoutReason, HoldSet.put_head_isEmpty_iff hh]
  rfl

section
variable {s : State} {g : Gate} {o : Order} (ho : s.orderInForce g = some o)
include ho

theorem levelUpdate_order_same (h : ¬ (LevelsTrusted s ∧ HeadClears s o)) :
    (closeEvent (headReleases s)).orderInForce g = some o := by
  rw [closeEvent_orderInForce]
  by_cases hs : LevelsTrusted s
  · obtain ⟨x, hc, hx, hr⟩ := headReleases_at hs g
    have hxo := hx.orderInForce_eq.trans ho
    rw [hr.orderInForce_eq, headRelease_of_not hxo fun k => h ⟨hs, (HeadClears.of_cascade hc o).1 k⟩, hxo]
  · rw [headReleases_of_untrusted (by simpa [LevelsTrusted] using hs), ho]

theorem levelUpdate_order_freed (hs : LevelsTrusted s) (h : HeadClears s o) :
    (closeEvent (headReleases s)).orderInForce g = some (o.withoutReason .head) := by
  obtain ⟨x, hc, hx, hr⟩ := headReleases_at hs g
  rw [closeEvent_orderInForce, hr.orderInForce_eq]
  exact headRelease_orderInForce (hx.orderInForce_eq.trans ho) ((HeadClears.of_cascade hc o).2 h)

/-- A gate in HELD whose order is held for nothing else waits for a slot as the event closes. -/
theorem headReleases_st_freed (hs : LevelsTrusted s) (h : HeadClears s o)
    (he : (o.holds.put .head false).isEmpty = true) (hst : (s.gate g).st = .held) :
    ((headReleases s).gate g).st = .waitGrant := by
  obtain ⟨x, hc, hx, hr⟩ := headReleases_at hs g
  rw [hr.gate]
  exact headRelease_st (hx.orderInForce_eq.trans ho) ((HeadClears.of_cascade hc o).2 h) he (by rw [hx.gate, hst])

theorem levelUpdate_st_freed (hs : LevelsTrusted s) (h : HeadClears s o)
    (he : (o.holds.put .head false).isEmpty = true) (hst : (s.gate g).st = .held) :
    ((closeEvent (headReleases s)).gate g).st = .waitGrant ∨ ((closeEvent (headReleases s)).gate g).st = .releasing := by
  have hlink : ((headReleases s).gate g).link ≠ none := by
    obtain ⟨n, hn, _⟩ := State.orderInForce_eq_some.1 (levelUpdate_order_freed ho hs h)
    rw [← (closeEvent_keeps g _).link, hn]
    simp
  rw [← headReleases_st_freed ho hs h he hst]
  exact (closeEvent_keeps g _).st hlink

theorem levelUpdate_st_of_no_room (hs : LevelsTrusted s) (h : HeadClears s o)
    (he : (o.holds.put .head false).isEmpty = true) (hst : (s.gate g).st = .held)
    (hroom : s.arbiter.limit ≤ s.arbiter.holders.length) :
    ((closeEvent (headReleases s)).gate g).st = .waitGrant := by
  rw [closeEvent_gate_of_no_room (by rw [(headReleases_cascade s).limit_eq, headReleases_holders]; exact hroom)]
  exact headReleases_st_freed ho hs h he hst

/-- A gate that waits for no slot and is not freed is left as it was. -/
theorem levelUpdate_gate_same (hq : s.quiet) (hw : g ∉ s.arbiter.waiters)
    (h : ¬ ((LevelsTrusted s ∧ HeadClears s o) ∧ (o.holds.put .head false).isEmpty = true ∧ (s.gate g).st = .held)) :
    (closeEvent (headReleases s)).gate g = s.gate g := by
  have hf : g ∉ s.arbiter.fresh := by simp [hq.1]
  by_cases hs : LevelsTrusted s
  · obtain ⟨x, hc, hx, hr⟩ := headReleases_at hs g
    obtain ⟨hgate, harb⟩ := headRelease_gate_arbiter (hx.orderInForce_eq.trans ho) fun k =>
      h ⟨⟨hs, (HeadClears.of_cascade hc o).1 k.1⟩, k.2.1, hx.gate ▸ k.2.2⟩
    have hw1 : g ∉ (headReleases s).arbiter.waiters := by rw [hr.waits, harb, hx.waits]; exact hw
    have hf1 : g ∉ (headReleases s).arbiter.fresh := by rw [hr.joins, harb, hx.joins]; exact hf
    rw [(closeEvent_leaves hw1 hf1).gate, hr.gate, hgate, hx.gate]
  · rw [headReleases_of_untrusted (by simpa [LevelsTrusted] using hs)]
    exact (closeEvent_leaves hw hf).gate

end

/-! ### Statement O49 -/

theorem measureGauge_headDisputed (w : Weir) (n : GaugeName) (c : Code) (s : State) :
    (measureGauge w n c s).measure.headDisputed = false ↔ LevelsTrusted (measureGauge w n c s) := by
  rw [LevelsTrusted, ← Bool.not_eq_false']
  rfl

theorem levelsTrusted_iff (s : State) : LevelsTrusted s ↔
    s.measure.sides.up.quality ∈ [Quality.good, .single] ∧ s.measure.sides.down.quality ∈ [Quality.good, .single] := by
  rw [LevelsTrusted, Bool.and_eq_true, trusted_iff, trusted_iff]

/-- Where no order waits for a level start, the level update of a conversion is its HEAD releases alone. -/
theorem converted_gauge_of_no_level {s : State}
    (h : ∀ x ∈ s.liveOrders, x.2.state = .queued → ∀ dir v l, x.2.start ≠ .level dir v l) (w : Weir) (n : GaugeName)
    (c : Code) : converted (.gauge w n) c s = closeEvent (headReleases (measureGauge w n c s)) := by
  have hw : ∀ g, ∀ o ∈ (measureGauge w n c s).queue g, watches w o = false := fun g o ho =>
    watches_of_no_level (h (g, o) (State.mem_liveOrders.2 ho))
  rw [converted, convert, convertGauge, levelStarts_of_no_watch hw]

/-- What a gauge conversion leaves, by what its event left before the scan went on. -/
theorem exec_gauge_conversion {s : State} {sc : Scan} {w : Weir} {n : GaugeName} (hsc : s.measure.scan = some sc)
    (hch : channelOf sc.next = some (.gauge w n)) (code : Code) :
    ∃ t, exec (.conversionComplete code) s = .next t ∧
      t.measure.gauges = (measureGauge w n code s).measure.gauges ∧
      t.measure.sides = (measureGauge w n code s).measure.sides ∧
      t.measure.head = (measureGauge w n code s).measure.head ∧
      t.measure.headDisputed = (measureGauge w n code s).measure.headDisputed ∧
      (∀ g, t.gate g = (converted (.gauge w n) code s).gate g) ∧
      (∀ g, t.orderInForce g = (converted (.gauge w n) code s).orderInForce g) ∧
      Moves s t ∧ (sc.next < 28 → t.measure.scan = some { sc with next := sc.next + 1 }) := by
  have hlev := converted_gauge_levelsKept hsc w n code
  have hscan : (converted (.gauge w n) code s).measure.scan = some sc := hlev.scan.trans hsc
  have hmoves := (converted_moves (.gauge w n) code s).trans (.aside (advanceScan_aside _))
  have hexec := exec_conversionComplete hsc hch code
  have hnext := fun hlt => congrArg (fun x => x.measure.scan) (advanceScan_of_lt hscan hlt)
  obtain ⟨a, b, c, e, hadv⟩ := advanceScan_spec (converted (.gauge w n) code s)
  refine ⟨advanceScan (converted (.gauge w n) code s), hexec, ?_, ?_, ?_, ?_, ?_, ?_, hmoves, hnext⟩ <;> rw [hadv]
  · exact hlev.gauges
  · exact hlev.sides
  · exact hlev.head
  · exact hlev.headDisputed
  · exact fun _ => rfl
  · exact fun _ => rfl

/-- Settles O49: the level update keeps what the reading formed (`LevelsKept`), and a gate meets its own HEAD release alone
before the close of the event (`headReleases_at`). -/
theorem scansAndGauges : Obligations.ScansAndGauges := by
  intro code w n sc left s
  refine ⟨fun ht hs => by rw [exec_scanTimerExpiry_of_due ht hs, startScan_eq], exec_scanTimerExpiry_of_not,
    fun hsc hplace => ?_⟩
  have hch : channelOf sc.next = some (.gauge w n) := by
    rcases hplace with ⟨h, rfl, rfl⟩ | ⟨h, rfl, rfl⟩ | ⟨h, rfl, rfl⟩ | ⟨h, rfl, rfl⟩ <;> rw [h] <;> rfl
  obtain ⟨t, hexec, hgauges, hsides, hhead, hdisputed, hgate, horder, hmoves, hscan⟩ := exec_gauge_conversion hsc hch code
  have hgauge := measureGauge_gauge w n code s
  have hside := measureGauge_side w n code s
  have htrusted := measureGauge_headDisputed w n code s
  rw [takeGauge_eq_ite] at hgauge
  rw [← hgauges] at hgauge
  rw [← hsides, ← hgauges] at hside
  rw [← hdisputed] at htrusted
  dsimp only
  refine ⟨t, hexec, hgauge, fun v m h => ?_, fun v h => ?_,
    ⟨fun ha hb h => ?_, fun ha hb h => ?_, fun ha hb => ?_, fun ha hb => ?_, fun ha hb => ?_⟩, ?_, ?_,
    fun _ hq hlevel g o ho => ?_, hmoves.orders, hmoves.settings_eq, hmoves.isolations_eq, hmoves.lines_eq, hscan⟩
  · rw [hgauges, measureGauge_other_gauge w n code s h]
  · rw [hsides, measureGauge_other_side w n code s h]
  · rw [hside, agree_good ha hb h]
  · rw [hside, agree_disputed ha hb h]
  · rw [hside, agree_single_a ha hb]
  · rw [hside, agree_single_b ha hb]
  · rw [hside, agree_lost ha hb]
  · rw [hhead, hsides]
    rfl
  · rw [htrusted, levelsTrusted_iff, hsides]
  · have hfrees : (t.measure.headDisputed = false ∧ o.holds.head = true ∧
        ∃ x, o.guard = some x ∧ x + (s.settings.site.hysteresis : Int) ≤ t.measure.head) ↔
        LevelsTrusted (measureGauge w n code s) ∧ HeadClears (measureGauge w n code s) o := by
      rw [htrusted, hhead]
      rfl
    have hempty (h : HeadClears (measureGauge w n code s) o) := HoldSet.put_head_isEmpty_iff h.1
    have hm : (measureGauge w n code s).orderInForce g = some o := ho
    rw [hfrees, horder, hgate, converted_gauge_of_no_level hlevel]
    refine ⟨levelUpdate_order_same hm, fun ⟨hs, h⟩ => ⟨?_, fun he hst => ?_, fun he hst => ?_⟩, fun h hw => ?_⟩
    · rw [levelUpdate_order_freed hm hs h, Order.withoutReason_head h.1]
    · exact levelUpdate_st_freed hm hs h ((hempty h).2 he) hst
    · exact levelUpdate_st_of_no_room hm hs h ((hempty h).2 he) hst
    · exact levelUpdate_gate_same hm hq hw fun ⟨hc, he, hst⟩ => h ⟨hc, (hempty hc.2).1 he, hst⟩

end Sys2Proof.Machine
end
